-- ==== Sys2Proof/Word.lean ====
section
/-! DEFINITION. The event word, the slot and contact numbers, and one value for each slot of a bank. -/

namespace Sys2Proof

/-- An event word `ev[31:0]`, bit 31 most significant (R70). -/
abbrev Word := BitVec 32

/-- A slot of a bank, 0..4; a cipher magnet carries the number of its slot (R9, R142). -/
abbrev Slot := Fin 5

/-- A contact, position or letter number of a 26-contact rotor (R9, R12). -/
abbrev Contact := Fin 26

/-- A contact, position or digit of a 10-contact rotor (R9, R12). -/
abbrev IndexContact := Fin 10

/-- `T[i]`, the read of one entry of a lookup table; an index is in range by its type (R10, R51, R55). -/
def tableAt (T : Vector α n) (i : Fin n) : α := T[i]

/-- One value for each of the five slots of a bank, slot 0 first (R5, R54). -/
structure Slots (α : Type) where
  slot0 : α
  slot1 : α
  slot2 : α
  slot3 : α
  slot4 : α
deriving DecidableEq, Repr

end Sys2Proof
end

