-- ==== Sys2Proof/Syntax.lean ====
section
/-! DEFINITION. The event instructions: one constructor for each row of spec/opcode_table.json, and the keys of the keyboard. -/

namespace Sys2Proof

/-- A key of the keyboard, in the six categories that partition the 40 key codes (R72, R84). -/
inductive Key where
  /-- a letter key, code 0..25 -/
  | letter (i : Contact)
  /-- a digit key, code 26..35 -/
  | digit (d : IndexContact)
  /-- the dash key, code 36 -/
  | dash
  /-- the unlabeled Blank key, code 37 -/
  | blank
  /-- the Space-Bar, code 38 -/
  | spaceBar
  /-- the RPT key, code 39 -/
  | rpt
deriving DecidableEq, Repr

/-- A bank kind, in the order of the SETPOS bank codes (R77). -/
inductive Bank where
  | cipher
  | control
  | index
deriving DecidableEq, Repr

/-- The instructions: the events of R71, one constructor for each row of the opcode table.
A SETPOS carries the five symbol codes `sym[0..4]` of R77, slot 0 first; a code is a number in 0..31
(`Instr.wellFormed`). -/
inductive Instr where
  /-- `NOP` -/
  | nop
  /-- `KEY_A` -/
  | keyA
  /-- `KEY_B` -/
  | keyB
  /-- `KEY_C` -/
  | keyC
  /-- `KEY_D` -/
  | keyD
  /-- `KEY_E` -/
  | keyE
  /-- `KEY_F` -/
  | keyF
  /-- `KEY_G` -/
  | keyG
  /-- `KEY_H` -/
  | keyH
  /-- `KEY_I` -/
  | keyI
  /-- `KEY_J` -/
  | keyJ
  /-- `KEY_K` -/
  | keyK
  /-- `KEY_L` -/
  | keyL
  /-- `KEY_M` -/
  | keyM
  /-- `KEY_N` -/
  | keyN
  /-- `KEY_O` -/
  | keyO
  /-- `KEY_P` -/
  | keyP
  /-- `KEY_Q` -/
  | keyQ
  /-- `KEY_R` -/
  | keyR
  /-- `KEY_S` -/
  | keyS
  /-- `KEY_T` -/
  | keyT
  /-- `KEY_U` -/
  | keyU
  /-- `KEY_V` -/
  | keyV
  /-- `KEY_W` -/
  | keyW
  /-- `KEY_X` -/
  | keyX
  /-- `KEY_Y` -/
  | keyY
  /-- `KEY_Z` -/
  | keyZ
  /-- `KEY_0` -/
  | key0
  /-- `KEY_1` -/
  | key1
  /-- `KEY_2` -/
  | key2
  /-- `KEY_3` -/
  | key3
  /-- `KEY_4` -/
  | key4
  /-- `KEY_5` -/
  | key5
  /-- `KEY_6` -/
  | key6
  /-- `KEY_7` -/
  | key7
  /-- `KEY_8` -/
  | key8
  /-- `KEY_9` -/
  | key9
  /-- `KEY_DASH` -/
  | keyDash
  /-- `KEY_BLANK` -/
  | keyBlank
  /-- `KEY_SPACE` -/
  | keySpace
  /-- `KEY_RPT` -/
  | keyRpt
  /-- `SETOP_OFF` -/
  | setopOff
  /-- `SETOP_PLAIN` -/
  | setopPlain
  /-- `SETOP_RESET` -/
  | setopReset
  /-- `SETOP_ENC` -/
  | setopEnc
  /-- `SETOP_DEC` -/
  | setopDec
  /-- `SETZ_ZEROIZE` -/
  | setzZeroize
  /-- `SETZ_NEUTRAL` -/
  | setzNeutral
  /-- `SETZ_OPERATE` -/
  | setzOperate
  /-- `SETVAR_CSP889` -/
  | setvarCsp889
  /-- `SETVAR_CSP2900` -/
  | setvarCsp2900
  /-- `SETVAR_NEUTRAL` -/
  | setvarNeutral
  /-- `ZEROIZE` -/
  | zeroize
  /-- `SETPOS_CIPHER` -/
  | setposCipher (sym0 sym1 sym2 sym3 sym4 : Nat)
  /-- `SETPOS_CONTROL` -/
  | setposControl (sym0 sym1 sym2 sym3 sym4 : Nat)
  /-- `SETPOS_INDEX` -/
  | setposIndex (sym0 sym1 sym2 sym3 sym4 : Nat)
deriving DecidableEq, Repr

end Sys2Proof
end

