-- ==== Sys2Proof/WellFormed.lean ====
section
/-! DEFINITION. Which instructions an event word can carry. -/

namespace Sys2Proof

/-- A symbol code is an unsigned 5-bit number (R77). -/
def symbolOk (sym : Nat) : Bool := decide (sym < 32)

/-- An instruction is well formed when every symbol code it carries fits its 5-bit field (R77);
the other rows carry no operand. -/
def Instr.wellFormed (i : Instr) : Bool :=
  match i with
  | .nop => true
  | .keyA => true
  | .keyB => true
  | .keyC => true
  | .keyD => true
  | .keyE => true
  | .keyF => true
  | .keyG => true
  | .keyH => true
  | .keyI => true
  | .keyJ => true
  | .keyK => true
  | .keyL => true
  | .keyM => true
  | .keyN => true
  | .keyO => true
  | .keyP => true
  | .keyQ => true
  | .keyR => true
  | .keyS => true
  | .keyT => true
  | .keyU => true
  | .keyV => true
  | .keyW => true
  | .keyX => true
  | .keyY => true
  | .keyZ => true
  | .key0 => true
  | .key1 => true
  | .key2 => true
  | .key3 => true
  | .key4 => true
  | .key5 => true
  | .key6 => true
  | .key7 => true
  | .key8 => true
  | .key9 => true
  | .keyDash => true
  | .keyBlank => true
  | .keySpace => true
  | .keyRpt => true
  | .setopOff => true
  | .setopPlain => true
  | .setopReset => true
  | .setopEnc => true
  | .setopDec => true
  | .setzZeroize => true
  | .setzNeutral => true
  | .setzOperate => true
  | .setvarCsp889 => true
  | .setvarCsp2900 => true
  | .setvarNeutral => true
  | .zeroize => true
  | .setposCipher a b c d e => symbolOk a && symbolOk b && symbolOk c && symbolOk d && symbolOk e
  | .setposControl a b c d e => symbolOk a && symbolOk b && symbolOk c && symbolOk d && symbolOk e
  | .setposIndex a b c d e => symbolOk a && symbolOk b && symbolOk c && symbolOk d && symbolOk e

end Sys2Proof
end

