-- ==== Sys2Proof/Decode.lean ====
section
/-! DEFINITION. The decoder (total on every word; a reserved word is rejected by name) and the encoder. -/

namespace Sys2Proof

/-- Why a word is reserved (R79). The block treats all of them alike, as the event `Invalid` (R176);
the names only say which clause of R79 a word falls under, the first in the order the decoder looks
(log 7). -/
inductive Reserved where
  /-- the opcode is 7..15 -/
  | opcode
  /-- a must-be-zero payload bit is 1 -/
  | payload
  /-- the key code is 40..63 (R208) -/
  | keyCode
  /-- the operating-switch code is 5..7 -/
  | operatingCode
  /-- the zeroize-switch code is 3 -/
  | zeroizeCode
  /-- the variant code is 3 -/
  | variantCode
  /-- the bank code is 3 -/
  | bankCode
deriving DecidableEq, Repr

/-- `ev[hi:lo]`: the unsigned integer made of bits `hi` down to `lo` (R9). -/
def evBits (w : Word) (hi lo : Nat) : Nat := (w.extractLsb' lo (hi + 1 - lo)).toNat

/-- The key rows in the order of their key codes, code 0 first (R72). -/
def keyInstrs : List Instr :=
  [.keyA, .keyB, .keyC, .keyD, .keyE, .keyF, .keyG, .keyH, .keyI, .keyJ] ++
  [.keyK, .keyL, .keyM, .keyN, .keyO, .keyP, .keyQ, .keyR, .keyS, .keyT] ++
  [.keyU, .keyV, .keyW, .keyX, .keyY, .keyZ, .key0, .key1, .key2, .key3] ++
  [.key4, .key5, .key6, .key7, .key8, .key9, .keyDash, .keyBlank, .keySpace, .keyRpt]

/-- The SETOP rows in the order of their switch codes (R73). -/
def setopInstrs : List Instr := [.setopOff, .setopPlain, .setopReset, .setopEnc, .setopDec]

/-- The SETZ rows in the order of their switch codes (R74). -/
def setzInstrs : List Instr := [.setzZeroize, .setzNeutral, .setzOperate]

/-- The SETVAR rows in the order of their variant codes (R75). -/
def setvarInstrs : List Instr := [.setvarCsp889, .setvarCsp2900, .setvarNeutral]

/-- Read a code from the list of the rows it may name; a code past the end is reserved (R79). -/
def decodeCode (rows : List Instr) (code : Nat) (why : Reserved) : Except Reserved Instr :=
  match rows[code]? with
  | some i => .ok i
  | none => .error why

/-- The SETPOS row a bank code names (R77). -/
def decodeSetpos (bank sym0 sym1 sym2 sym3 sym4 : Nat) : Except Reserved Instr :=
  match bank with
  | 0 => .ok (.setposCipher sym0 sym1 sym2 sym3 sym4)
  | 1 => .ok (.setposControl sym0 sym1 sym2 sym3 sym4)
  | 2 => .ok (.setposIndex sym0 sym1 sym2 sym3 sym4)
  | _ => .error .bankCode

/-- Decode an event word (R70 to R80). An `.error` answer is the decoded event `Invalid` of R80. -/
def decode (w : Word) : Except Reserved Instr :=
  match evBits w 31 28 with
  | 0 => if evBits w 27 0 = 0 then .ok .nop else .error .payload
  | 1 => if evBits w 27 6 = 0 then decodeCode keyInstrs (evBits w 5 0) .keyCode else .error .payload
  | 2 => if evBits w 27 3 = 0 then decodeCode setopInstrs (evBits w 2 0) .operatingCode else .error .payload
  | 3 => if evBits w 27 2 = 0 then decodeCode setzInstrs (evBits w 1 0) .zeroizeCode else .error .payload
  | 4 => if evBits w 27 2 = 0 then decodeCode setvarInstrs (evBits w 1 0) .variantCode else .error .payload
  | 5 => if evBits w 27 0 = 0 then .ok .zeroize else .error .payload
  | 6 =>
    if evBits w 25 25 = 0 then
      decodeSetpos (evBits w 27 26) (evBits w 4 0) (evBits w 9 5) (evBits w 14 10) (evBits w 19 15) (evBits w 24 20)
    else .error .payload
  | _ => .error .opcode

/-- The SETPOS word of a bank code and five symbol codes, slot 0 in the low five bits (R77). -/
def encodeSetpos (bank sym0 sym1 sym2 sym3 sym4 : Nat) : Word :=
  BitVec.ofNat 32 (6 * 2 ^ 28 + bank * 2 ^ 26 + sym4 * 2 ^ 20 + sym3 * 2 ^ 15 + sym2 * 2 ^ 10 + sym1 * 2 ^ 5 + sym0)

/-- The word of a well-formed instruction (R71 to R78). -/
def encode (i : Instr) : Word :=
  match i with
  | .nop => 0x00000000#32
  | .keyA => 0x10000000#32
  | .keyB => 0x10000001#32
  | .keyC => 0x10000002#32
  | .keyD => 0x10000003#32
  | .keyE => 0x10000004#32
  | .keyF => 0x10000005#32
  | .keyG => 0x10000006#32
  | .keyH => 0x10000007#32
  | .keyI => 0x10000008#32
  | .keyJ => 0x10000009#32
  | .keyK => 0x1000000A#32
  | .keyL => 0x1000000B#32
  | .keyM => 0x1000000C#32
  | .keyN => 0x1000000D#32
  | .keyO => 0x1000000E#32
  | .keyP => 0x1000000F#32
  | .keyQ => 0x10000010#32
  | .keyR => 0x10000011#32
  | .keyS => 0x10000012#32
  | .keyT => 0x10000013#32
  | .keyU => 0x10000014#32
  | .keyV => 0x10000015#32
  | .keyW => 0x10000016#32
  | .keyX => 0x10000017#32
  | .keyY => 0x10000018#32
  | .keyZ => 0x10000019#32
  | .key0 => 0x1000001A#32
  | .key1 => 0x1000001B#32
  | .key2 => 0x1000001C#32
  | .key3 => 0x1000001D#32
  | .key4 => 0x1000001E#32
  | .key5 => 0x1000001F#32
  | .key6 => 0x10000020#32
  | .key7 => 0x10000021#32
  | .key8 => 0x10000022#32
  | .key9 => 0x10000023#32
  | .keyDash => 0x10000024#32
  | .keyBlank => 0x10000025#32
  | .keySpace => 0x10000026#32
  | .keyRpt => 0x10000027#32
  | .setopOff => 0x20000000#32
  | .setopPlain => 0x20000001#32
  | .setopReset => 0x20000002#32
  | .setopEnc => 0x20000003#32
  | .setopDec => 0x20000004#32
  | .setzZeroize => 0x30000000#32
  | .setzNeutral => 0x30000001#32
  | .setzOperate => 0x30000002#32
  | .setvarCsp889 => 0x40000000#32
  | .setvarCsp2900 => 0x40000001#32
  | .setvarNeutral => 0x40000002#32
  | .zeroize => 0x50000000#32
  | .setposCipher a b c d e => encodeSetpos 0 a b c d e
  | .setposControl a b c d e => encodeSetpos 1 a b c d e
  | .setposIndex a b c d e => encodeSetpos 2 a b c d e

/-- The key a KEY row stands for, none for the other rows (R72, R84). -/
def Instr.key? (i : Instr) : Option Key :=
  match i with
  | .nop => none
  | .keyA => some (.letter 0)
  | .keyB => some (.letter 1)
  | .keyC => some (.letter 2)
  | .keyD => some (.letter 3)
  | .keyE => some (.letter 4)
  | .keyF => some (.letter 5)
  | .keyG => some (.letter 6)
  | .keyH => some (.letter 7)
  | .keyI => some (.letter 8)
  | .keyJ => some (.letter 9)
  | .keyK => some (.letter 10)
  | .keyL => some (.letter 11)
  | .keyM => some (.letter 12)
  | .keyN => some (.letter 13)
  | .keyO => some (.letter 14)
  | .keyP => some (.letter 15)
  | .keyQ => some (.letter 16)
  | .keyR => some (.letter 17)
  | .keyS => some (.letter 18)
  | .keyT => some (.letter 19)
  | .keyU => some (.letter 20)
  | .keyV => some (.letter 21)
  | .keyW => some (.letter 22)
  | .keyX => some (.letter 23)
  | .keyY => some (.letter 24)
  | .keyZ => some (.letter 25)
  | .key0 => some (.digit 0)
  | .key1 => some (.digit 1)
  | .key2 => some (.digit 2)
  | .key3 => some (.digit 3)
  | .key4 => some (.digit 4)
  | .key5 => some (.digit 5)
  | .key6 => some (.digit 6)
  | .key7 => some (.digit 7)
  | .key8 => some (.digit 8)
  | .key9 => some (.digit 9)
  | .keyDash => some .dash
  | .keyBlank => some .blank
  | .keySpace => some .spaceBar
  | .keyRpt => some .rpt
  | .setopOff => none
  | .setopPlain => none
  | .setopReset => none
  | .setopEnc => none
  | .setopDec => none
  | .setzZeroize => none
  | .setzNeutral => none
  | .setzOperate => none
  | .setvarCsp889 => none
  | .setvarCsp2900 => none
  | .setvarNeutral => none
  | .zeroize => none
  | .setposCipher _ _ _ _ _ => none
  | .setposControl _ _ _ _ _ => none
  | .setposIndex _ _ _ _ _ => none

/-- The key code of a key (R72, R84). -/
def Key.code (k : Key) : Nat :=
  match k with
  | .letter i => i.val
  | .digit d => 26 + d.val
  | .dash => 36
  | .blank => 37
  | .spaceBar => 38
  | .rpt => 39

/-- The KEY row of a key (R72). -/
def Key.instr (k : Key) : Instr := keyInstrs.getD k.code .nop

/-- The instruction the decoder reads from an instruction of `nbits` bits numbered as
spec/opcode_table.json numbers them; the bits above `nbits` are 0. An event is one 32-bit word with no
bytes (R54, R70), so the word is given to the decoder as it stands. -/
def decodeTableWord (nbits w : Nat) : Option Instr :=
  match decode (BitVec.ofNat 32 (w % 2 ^ nbits)) with
  | .ok i => some i
  | .error _ => none

end Sys2Proof
end

