-- ==== Sys2Proof/Config.lean ====
section
/-! DEFINITION. The constants the spec fixes (R5), the parameters it leaves open (R6, R7) and the fixture
values that the reset state takes for them (log 5). -/

namespace Sys2Proof

/-- `HOME26`: the home position of every Cipher and Control rotor (R5, R23). -/
abbrev home26 : Contact := 14

/-- `HOME10`: the home symbol of an Index rotor (R5). -/
abbrev home10 : IndexContact := 0

/-- `LOCK_LIMIT` (R5, R32). -/
abbrev lockLimit : Nat := 21

/-- `GROUP`: the ciphertext group length (R5). -/
abbrev groupLength : Nat := 5

/-- `FAST`: the control slot that steps at every odometer call (R5, R141). -/
abbrev fastSlot : Slot := 2

/-- `MEDIUM`: the control slot the fast slot carries into (R5, R141). -/
abbrev mediumSlot : Slot := 3

/-- `SLOW`: the control slot the medium slot carries into (R5, R141). -/
abbrev slowSlot : Slot := 1

/-- The variants with a wiring of their own (R1); the switch has a Neutral position besides (R31). -/
inductive Variant where
  | csp889
  | csp2900
deriving DecidableEq, Repr

/-- A wiring table: the forward table, a permutation of `[0,n)`, and its inverse, precomputed at
construction. The law is the source's Rotor invariant, so a table that is no permutation cannot be
written down (R7, R24; log 8). -/
structure Wiring (n : Nat) where
  /-- the forward table `L` -/
  fwd : Vector (Fin n) n
  /-- the backward table `R = inv(L)` -/
  bwd : Vector (Fin n) n
  /-- `backwardTable[forwardTable[i]] == i` for all i (R7) -/
  bwd_fwd : ∀ i : Fin n, tableAt bwd (tableAt fwd i) = i
deriving DecidableEq, Repr

/-- A pool of wiring tables: entry 0, which is always there, and the entries after it (R6). -/
structure Pool (n : Nat) where
  entry0 : Wiring n
  more : List (Wiring n)
deriving DecidableEq, Repr

/-- The orientation of a slot (R6, R24). -/
inductive Orientation where
  | normal
  | reversed
deriving DecidableEq, Repr

/-- A configuration pair `(wiringIndex, orientation)`; the index is any integer (R52, R231). -/
structure SlotChoice where
  wiringIndex : Int
  orientation : Orientation
deriving DecidableEq, Repr

/-- The rotor order of one bank, `CFG_X` (R6). -/
abbrev RotorOrder := Slots SlotChoice

/-- The cross-bank tables and the driven contacts (R6, R50); `none` is `NC`. The laws are the counts
the source gives: 3 disconnected entries for CSP-2900, 4 and 6 distinct driven contacts. -/
structure CrossTables where
  /-- `C2I[CSP889]` -/
  c2i889 : Vector (Option IndexContact) 26
  /-- `C2I[CSP2900]` -/
  c2i2900 : Vector (Option IndexContact) 26
  /-- `I2M` -/
  i2m : Vector Slot 10
  /-- `DRIVE[CSP889]` -/
  drive889 : Vector Contact 4
  /-- `DRIVE[CSP2900]` -/
  drive2900 : Vector Contact 6
  three_disconnected : c2i2900.toList.count none = 3
  drive889_distinct : drive889.toList.Nodup
  drive2900_distinct : drive2900.toList.Nodup
deriving DecidableEq, Repr

/-- Everything the host may choose before a session (R6). -/
structure Parameters where
  /-- `W_CIPHER` -/
  cipherPool : Pool 26
  /-- `W_CONTROL` -/
  controlPool : Pool 26
  /-- `W_INDEX` -/
  indexPool : Pool 10
  cross : CrossTables
  /-- `CFG_CIPHER` -/
  cipherOrder : RotorOrder
  /-- `CFG_CONTROL` -/
  controlOrder : RotorOrder
  /-- `CFG_INDEX` -/
  indexOrder : RotorOrder
deriving DecidableEq, Repr

/-- The configuration register of one slot: `cfgX[s].L`, `cfgX[s].R` and `cfgX[s].rev` (R24). -/
structure RotorConfig (n : Nat) where
  wiring : Wiring n
  rev : Bool
deriving DecidableEq, Repr

/-- The read-only configuration of a session: `cfgC`, `cfgK`, `cfgI` (R24) and the cross tables (R50). -/
structure Configuration where
  cipher : Slots (RotorConfig 26)
  control : Slots (RotorConfig 26)
  index : Slots (RotorConfig 10)
  cross : CrossTables
deriving DecidableEq, Repr

namespace Fixture

/-! Test data of 95_test_vectors.md section 2: invented permutations, not the machine's wiring (log 5). -/

/-- `FIX26[0]` -/
def fix26t0 : Wiring 26 where
  fwd := #v[9, 15, 19, 0, 6, 8, 1, 20, 23, 7, 16, 17, 18, 10, 22, 4, 25, 5, 14, 2, 11, 12, 3, 21, 13, 24]
  bwd := #v[3, 6, 19, 22, 15, 17, 4, 9, 5, 0, 13, 20, 21, 24, 18, 1, 10, 11, 12, 2, 7, 23, 14, 8, 25, 16]
  bwd_fwd := by decide

/-- `FIX26[1]` -/
def fix26t1 : Wiring 26 where
  fwd := #v[24, 19, 10, 8, 15, 4, 16, 22, 3, 14, 7, 21, 18, 0, 9, 23, 20, 11, 13, 5, 12, 17, 2, 6, 1, 25]
  bwd := #v[13, 24, 22, 8, 5, 19, 23, 10, 3, 14, 2, 17, 20, 18, 9, 4, 6, 21, 12, 1, 16, 11, 7, 15, 0, 25]
  bwd_fwd := by decide

/-- `FIX26[2]` -/
def fix26t2 : Wiring 26 where
  fwd := #v[14, 11, 5, 22, 1, 17, 9, 25, 10, 6, 18, 12, 3, 0, 24, 23, 2, 20, 15, 8, 21, 4, 7, 13, 19, 16]
  bwd := #v[13, 4, 16, 12, 21, 2, 9, 22, 19, 6, 8, 1, 11, 23, 0, 18, 25, 5, 10, 24, 17, 20, 3, 15, 14, 7]
  bwd_fwd := by decide

/-- `FIX26[3]` -/
def fix26t3 : Wiring 26 where
  fwd := #v[3, 23, 2, 9, 16, 6, 25, 5, 4, 18, 19, 13, 8, 22, 1, 10, 0, 12, 20, 24, 21, 14, 7, 11, 17, 15]
  bwd := #v[16, 14, 2, 0, 8, 7, 5, 22, 12, 3, 15, 23, 17, 11, 21, 25, 4, 24, 9, 10, 18, 20, 13, 1, 19, 6]
  bwd_fwd := by decide

/-- `FIX26[4]` -/
def fix26t4 : Wiring 26 where
  fwd := #v[7, 14, 18, 15, 11, 21, 12, 2, 0, 24, 8, 20, 5, 9, 25, 4, 1, 10, 22, 6, 16, 17, 19, 23, 3, 13]
  bwd := #v[8, 16, 7, 24, 15, 12, 19, 0, 10, 13, 17, 4, 6, 25, 1, 3, 20, 21, 2, 22, 11, 5, 18, 23, 9, 14]
  bwd_fwd := by decide

/-- `FIX26[5]` -/
def fix26t5 : Wiring 26 where
  fwd := #v[7, 14, 21, 10, 2, 8, 6, 4, 22, 0, 3, 24, 16, 19, 1, 25, 5, 23, 11, 9, 20, 18, 13, 17, 12, 15]
  bwd := #v[9, 14, 4, 10, 7, 16, 6, 0, 5, 19, 3, 18, 24, 22, 1, 25, 12, 23, 21, 13, 20, 2, 8, 17, 11, 15]
  bwd_fwd := by decide

/-- `FIX26[6]` -/
def fix26t6 : Wiring 26 where
  fwd := #v[8, 25, 3, 5, 22, 23, 13, 12, 4, 17, 16, 24, 15, 2, 19, 9, 20, 21, 10, 18, 6, 0, 14, 7, 1, 11]
  bwd := #v[21, 24, 13, 2, 8, 3, 20, 23, 0, 15, 18, 25, 7, 6, 22, 12, 10, 9, 19, 14, 16, 17, 4, 5, 11, 1]
  bwd_fwd := by decide

/-- `FIX26[7]` -/
def fix26t7 : Wiring 26 where
  fwd := #v[8, 20, 2, 13, 12, 21, 24, 3, 17, 10, 0, 15, 11, 4, 22, 14, 18, 6, 25, 16, 7, 23, 9, 5, 19, 1]
  bwd := #v[10, 25, 2, 7, 13, 23, 17, 20, 0, 22, 9, 12, 4, 3, 15, 11, 19, 8, 16, 24, 1, 5, 14, 21, 6, 18]
  bwd_fwd := by decide

/-- `FIX26[8]` -/
def fix26t8 : Wiring 26 where
  fwd := #v[25, 24, 23, 13, 9, 6, 20, 15, 22, 7, 17, 19, 5, 12, 8, 0, 11, 21, 18, 4, 1, 3, 2, 10, 14, 16]
  bwd := #v[15, 20, 22, 21, 19, 12, 5, 9, 14, 4, 23, 16, 13, 3, 24, 7, 25, 10, 18, 11, 6, 17, 8, 2, 1, 0]
  bwd_fwd := by decide

/-- `FIX26[9]` -/
def fix26t9 : Wiring 26 where
  fwd := #v[11, 18, 10, 20, 13, 19, 4, 22, 17, 14, 9, 12, 3, 24, 1, 8, 6, 7, 21, 25, 23, 16, 2, 15, 0, 5]
  bwd := #v[24, 14, 22, 12, 6, 25, 16, 17, 15, 10, 2, 0, 11, 4, 9, 23, 21, 8, 1, 5, 3, 18, 7, 20, 13, 19]
  bwd_fwd := by decide

/-- `FIX26[10]` -/
def fix26t10 : Wiring 26 where
  fwd := #v[0, 1, 2, 3, 4, 5, 6, 7, 8, 9, 10, 11, 12, 13, 14, 15, 16, 17, 18, 19, 20, 21, 22, 23, 24, 25]
  bwd := #v[0, 1, 2, 3, 4, 5, 6, 7, 8, 9, 10, 11, 12, 13, 14, 15, 16, 17, 18, 19, 20, 21, 22, 23, 24, 25]
  bwd_fwd := by decide

/-- `FIX10[0]` -/
def fix10t0 : Wiring 10 where
  fwd := #v[5, 8, 3, 4, 1, 2, 6, 9, 0, 7]
  bwd := #v[8, 4, 5, 2, 3, 0, 6, 9, 1, 7]
  bwd_fwd := by decide

/-- `FIX10[1]` -/
def fix10t1 : Wiring 10 where
  fwd := #v[1, 3, 2, 4, 7, 8, 6, 5, 0, 9]
  bwd := #v[8, 0, 2, 1, 3, 7, 6, 4, 5, 9]
  bwd_fwd := by decide

/-- `FIX10[2]` -/
def fix10t2 : Wiring 10 where
  fwd := #v[3, 2, 1, 9, 4, 7, 6, 5, 8, 0]
  bwd := #v[9, 2, 1, 0, 4, 7, 6, 5, 8, 3]
  bwd_fwd := by decide

/-- `FIX10[3]` -/
def fix10t3 : Wiring 10 where
  fwd := #v[9, 4, 5, 0, 7, 6, 2, 3, 8, 1]
  bwd := #v[3, 9, 6, 7, 1, 2, 5, 4, 8, 0]
  bwd_fwd := by decide

/-- `FIX10[4]` -/
def fix10t4 : Wiring 10 where
  fwd := #v[6, 5, 7, 1, 4, 9, 2, 3, 0, 8]
  bwd := #v[8, 3, 6, 7, 4, 1, 0, 2, 9, 5]
  bwd_fwd := by decide

/-- `FIX10[5]` -/
def fix10t5 : Wiring 10 where
  fwd := #v[0, 1, 2, 3, 4, 5, 6, 7, 8, 9]
  bwd := #v[0, 1, 2, 3, 4, 5, 6, 7, 8, 9]
  bwd_fwd := by decide

/-- The pool `FIX26` -/
def pool26 : Pool 26 where
  entry0 := fix26t0
  more := [fix26t1, fix26t2, fix26t3, fix26t4, fix26t5, fix26t6, fix26t7, fix26t8, fix26t9, fix26t10]

/-- The pool `FIX10` -/
def pool10 : Pool 10 where
  entry0 := fix10t0
  more := [fix10t1, fix10t2, fix10t3, fix10t4, fix10t5]

/-- The cross tables `FIX-GK`, which the spec offers for test purposes only (U2 to U4). -/
def crossGK : CrossTables where
  c2i889 := #v[some 9, some 1, some 2, some 3, some 3, some 4, some 4, some 4, some 5, some 5, some 5, some 6, some 6,
    some 6, some 6, some 7, some 7, some 7, some 7, some 7, some 8, some 8, some 8, some 8, some 8, some 8]
  c2i2900 := #v[some 9, some 1, some 2, some 3, some 3, some 4, some 4, some 4, some 5, some 5, some 5, some 6, some 6,
    some 6, some 6, none, none, none, some 7, some 7, some 8, some 8, some 8, some 8, some 8, some 8]
  i2m := #v[0, 4, 4, 3, 3, 2, 2, 1, 1, 0]
  drive889 := #v[5, 6, 7, 8]
  drive2900 := #v[3, 4, 5, 6, 7, 8]
  three_disconnected := by decide
  drive889_distinct := by decide
  drive2900_distinct := by decide

end Fixture

end Sys2Proof
end

