-- ==== Sys2Proof/Machine/Slots.lean ====
section
/-! DEFINITION. Reading, writing and building the five values of a bank. -/

namespace Sys2Proof

/-- The value of slot `i`. -/
def Slots.get (b : Slots α) (i : Slot) : α :=
  match i with
  | 0 => b.slot0
  | 1 => b.slot1
  | 2 => b.slot2
  | 3 => b.slot3
  | 4 => b.slot4

/-- The bank with the value `v` in slot `i`. -/
def Slots.set (b : Slots α) (i : Slot) (v : α) : Slots α :=
  match i with
  | 0 => { b with slot0 := v }
  | 1 => { b with slot1 := v }
  | 2 => { b with slot2 := v }
  | 3 => { b with slot3 := v }
  | 4 => { b with slot4 := v }

/-- The bank whose slot `i` holds `f i`. -/
def Slots.tabulate (f : Slot → α) : Slots α := ⟨f 0, f 1, f 2, f 3, f 4⟩

/-- The bank with `v` in every slot. -/
def Slots.fill (v : α) : Slots α := ⟨v, v, v, v, v⟩

/-- The values in slot order, slot 0 first. -/
def Slots.toList (b : Slots α) : List α := [b.slot0, b.slot1, b.slot2, b.slot3, b.slot4]

/-- `for s in 0..4` (R10). -/
def slotsUp : List Slot := [0, 1, 2, 3, 4]

/-- `for s in 4..0` (R10). -/
def slotsDown : List Slot := [4, 3, 2, 1, 0]

end Sys2Proof
end

