-- ==== Sys2Proof/Machine/Configure.lean ====
section
/-! DEFINITION. Configuration: choosing the tables of each slot (R231) and the configuration strings (R232). -/

namespace Sys2Proof.Machine

/-- The number of tables of a pool, `NW_X` (R6). -/
def poolSize (p : Pool n) : Nat := 1 + p.more.length

/-- `W_X[idx]`, with the documented fallback to entry 0 for an index that is negative or past the end
(R231, R52). -/
def poolSelect (p : Pool n) (idx : Int) : Wiring n :=
  if 0 ≤ idx ∧ idx < poolSize p then (p.entry0 :: p.more).getD idx.toNat p.entry0 else p.entry0

/-- The configuration register of one slot (R231). -/
def configureSlot (p : Pool n) (c : SlotChoice) : RotorConfig n where
  wiring := poolSelect p c.wiringIndex
  rev := decide (c.orientation = .reversed)

/-- The configuration registers of one bank, each slot by itself (R231). -/
def configureBank (p : Pool n) (order : RotorOrder) : Slots (RotorConfig n) :=
  Slots.tabulate fun i => configureSlot p (order.get i)

/-- `configure(cipherOrder, controlOrder, indexOrder)` (R231). -/
def configure (p : Parameters) : Configuration where
  cipher := configureBank p.cipherPool p.cipherOrder
  control := configureBank p.controlPool p.controlOrder
  index := configureBank p.indexPool p.indexOrder
  cross := p.cross

/-- The value of a digit character, none for any other character (log 10). -/
def digitValue (ch : Char) : Option IndexContact :=
  if h : 48 ≤ ch.toNat ∧ ch.toNat < 58 then some ⟨ch.toNat - 48, by omega⟩ else none

/-- One slot of a configuration string, `<digit><orientation>`; a character that is no digit reads as
index 0, an orientation other than `R` as Normal (R232). -/
def parseChoice (d o : Char) : SlotChoice where
  wiringIndex := match digitValue d with
    | some v => v.val
    | none => 0
  orientation := if o = 'R' then .reversed else .normal

/-- A configuration string of exactly 10 characters, none for another length (R232). -/
def parseTen (t : List Char) : Option RotorOrder :=
  match t with
  | [d0, o0, d1, o1, d2, o2, d3, o3, d4, o4] =>
    some ⟨parseChoice d0 o0, parseChoice d1 o1, parseChoice d2 o2, parseChoice d3 o3, parseChoice d4 o4⟩
  | _ => none

/-- Wiring indices `first` to `first + 4`, all Normal: what the default strings say (R232). -/
def consecutiveOrder (first : Int) : RotorOrder :=
  Slots.tabulate fun i => { wiringIndex := first + i.val, orientation := .normal }

/-- The order the default string of a bank says: `"0N1N2N3N4N"` for Cipher and Index, `"5N6N7N8N9N"` for
Control (R232). -/
def defaultCipherOrder : RotorOrder := consecutiveOrder 0
@[inherit_doc defaultCipherOrder] def defaultControlOrder : RotorOrder := consecutiveOrder 5
@[inherit_doc defaultCipherOrder] def defaultIndexOrder : RotorOrder := consecutiveOrder 0

/-- The rotor order of a bank from its configuration string: the default where the string is absent or
mis-sized; each string is judged alone (R232). -/
def parseOrder (default : RotorOrder) (t : Option (List Char)) : RotorOrder :=
  ((t.bind parseTen).getD default)

/-- The parameters with the rotor orders of three configuration strings (R232). -/
def withOrderStrings (p : Parameters) (cipher control index : Option (List Char)) : Parameters :=
  { p with
    cipherOrder := parseOrder defaultCipherOrder cipher
    controlOrder := parseOrder defaultControlOrder control
    indexOrder := parseOrder defaultIndexOrder index }

/-- The fixture parameters with the default rotor orders: `FIX-A` with `FIX-GK` of 95_test_vectors.md
section 2. Test data, not the machine's wiring (DESIGN CHOICE, unsafe: log 5). -/
def fixtureParameters : Parameters where
  cipherPool := Fixture.pool26
  controlPool := Fixture.pool26
  indexPool := Fixture.pool10
  cross := Fixture.crossGK
  cipherOrder := defaultCipherOrder
  controlOrder := defaultControlOrder
  indexOrder := defaultIndexOrder

end Sys2Proof.Machine
end

