-- ==== Sys2Proof/Machine/State.lean ====
section
/-! DEFINITION. The state of the block, its outcomes and its reset. -/

namespace Sys2Proof.Machine

/-- The reasons a step could stop with a fault. There are none: "The block raises no exception, for any
input in any state" (R250), so the type has no constructor and no step can fault. -/
inductive Fault : Type
deriving DecidableEq, Repr

/-- The reasons an outcome is refused. -/
inductive Refusal where
  /-- An instruction whose arm of `exec` has no meaning yet; no arm raises it. Safe. -/
  | notModelled (mnemonic : String)
  /-- Raised by loading a configuration (`loadParameters`, `assertReset`), never by a step: a pool holds a
  table that is not a permutation, which R7 says to refuse. Safe. -/
  | nonBijectiveWiring
  /-- Raised by loading a configuration: a pool without a table, against `NW_X >= 1` of R6. Safe. -/
  | emptyPool
  /-- Raised by loading a configuration: the cross tables break a count of R6. Safe. -/
  | malformedCrossTables
deriving DecidableEq, Repr

/-- The positions of the operating switch (R28). -/
inductive OperatingSwitch where
  | off
  | plaintext
  | reset
  | encrypt
  | decrypt
deriving DecidableEq, Repr

/-- The positions of the zeroize switch (R30). -/
inductive ZeroizeSwitch where
  | zeroize
  | neutral
  | operate
deriving DecidableEq, Repr

/-- The positions of the variant switch (R31). -/
inductive VariantSwitch where
  | csp889
  | csp2900
  | neutral
deriving DecidableEq, Repr

/-- A character of the output list: one of 38 (R81). -/
inductive OutChar where
  | letter (i : Contact)
  | digit (d : IndexContact)
  | dash
  | space
deriving DecidableEq, Repr

/-- The state of the block: the tuple of R20, the read-only configuration (R24, R50; log 4), and the two
port fields of the model (R230; log 1, log 3). -/
structure State where
  /-- the Cipher position registers `C[0..4]` (R21) -/
  C : Slots Contact
  /-- the Control position registers `K[0..4]` (R21) -/
  K : Slots Contact
  /-- the Index position registers `I[0..4]` (R21) -/
  I : Slots IndexContact
  /-- R25 -/
  lockupCount : Nat
  /-- R26 -/
  keystrokeCount : Nat
  /-- R27 -/
  groupCount : Nat
  /-- R28 -/
  operatingSwitch : OperatingSwitch
  /-- R29 -/
  previousOperatingSwitch : OperatingSwitch
  /-- R30 -/
  zeroizeSwitch : ZeroizeSwitch
  /-- R31 -/
  machineVariant : VariantSwitch
  /-- the configuration registers and the cross tables: no event writes them (R24, R59) -/
  config : Configuration
  /-- the output list of the event just taken (ports `out_len`, `out_ch` of R230) -/
  out : List OutChar
  /-- the event words the host has presented and the block has not taken (R35, R230) -/
  events : List Word
deriving DecidableEq, Repr

/-- The reset values of the state registers, "a model argument with decided default values" (R8, U6): any
values of the registers' types. The default of each field is its value in the table of R36 (log 6). -/
structure ResetValues where
  C : Slots Contact := Slots.fill home26
  K : Slots Contact := Slots.fill home26
  I : Slots IndexContact := Slots.fill home10
  lockupCount : Nat := 0
  keystrokeCount : Nat := 0
  groupCount : Nat := 0
  operatingSwitch : OperatingSwitch := .off
  previousOperatingSwitch : OperatingSwitch := .off
  zeroizeSwitch : ZeroizeSwitch := .neutral
  machineVariant : VariantSwitch := .neutral
deriving DecidableEq, Repr

/-- The decided reset values: the table of R36 (log 6). -/
def ResetValues.decided : ResetValues := {}

/-- The state after reset under a configuration: every register at its reset value, by default those of R36
(R8, R280), nothing emitted, no event pending. -/
def State.resetWith (config : Configuration) (values : ResetValues := ResetValues.decided) : State where
  C := values.C
  K := values.K
  I := values.I
  lockupCount := values.lockupCount
  keystrokeCount := values.keystrokeCount
  groupCount := values.groupCount
  operatingSwitch := values.operatingSwitch
  previousOperatingSwitch := values.previousOperatingSwitch
  zeroizeSwitch := values.zeroizeSwitch
  machineVariant := values.machineVariant
  config := config
  out := []
  events := []

/-- The machine right after reset, with the decided values of R36 and the default configuration strings of
R232. The spec gives no
wiring (R6): the tables are its test fixtures (DESIGN CHOICE, unsafe: log 5). -/
def State.reset : State := State.resetWith (configure fixtureParameters)

end Sys2Proof.Machine
end

