-- ==== Sys2Proof/Machine/Flags.lean ====
section
/-! DEFINITION. The derived conditions: lockup, gating, the live variant and the home tests. -/

namespace Sys2Proof.Machine

/-- `isLocked = (lockupCount >= 21)`, derived and not stored (R32). -/
def State.isLocked (s : State) : Bool := decide (lockLimit ≤ s.lockupCount)

/-- The variant a switch position selects, none for Neutral (R31). -/
def VariantSwitch.variant? (v : VariantSwitch) : Option Variant :=
  match v with
  | .csp889 => some .csp889
  | .csp2900 => some .csp2900
  | .neutral => none

/-- Gating G1: `operatingSwitch = Off or machineVariant = Neutral or zeroizeSwitch = Neutral` (R190). -/
def State.gatedBySwitches (s : State) : Bool :=
  decide (s.operatingSwitch = .off) || decide (s.machineVariant = .neutral) || decide (s.zeroizeSwitch = .neutral)

/-- The gating rule, G1 then G2: a gated key is a no-op (R190). -/
def State.keysGated (s : State) : Bool := s.gatedBySwitches || s.isLocked

/-- At home: the position register equals 14; neither orientation nor wiring plays a part (R23). -/
def atHome (pos : Contact) : Bool := decide (pos = home26)

/-- The grouping test: `groupCount > 0 and groupCount mod 5 = 0` (R203). -/
def State.atGroupBoundary (s : State) : Bool :=
  decide (0 < s.groupCount) && decide (s.groupCount % groupLength = 0)

/-- The number of padding spaces of a Reset transition, `(5 - (keystrokeCount mod 5)) mod 5` (R171). -/
def State.paddingCount (s : State) : Nat :=
  (groupLength - s.keystrokeCount % groupLength) % groupLength

end Sys2Proof.Machine
end

