-- ==== Sys2Proof/Machine/Operands.lean ====
section
/-! DEFINITION. The operand forms: key symbols, the Encrypt remaps, position symbols and characters. -/

namespace Sys2Proof.Machine

/-- The contact an Encrypt key sends through the cipher bank: the Space-Bar as `Z`, `Z` as `X`, any other
letter as itself, and none for the other keys (R203). -/
def encryptContact (k : Key) : Option Contact :=
  match k with
  | .spaceBar => some 25
  | .letter i => some (if i = 25 then 23 else i)
  | .digit _ => none
  | .dash => none
  | .blank => none
  | .rpt => none

/-- The character a decrypted contact is emitted as: `Z` as a space, any other letter as itself (R206). -/
def decryptedChar (y : Contact) : OutChar := if y = 25 then .space else .letter y

/-- The control slot a Reset-mode digit key steps: `digit - 1` for 1..5, none for 0 and 6..9 (R195, R197). -/
def resetDigitSlot (d : IndexContact) : Option Slot :=
  if h : 1 ≤ d.val ∧ d.val ≤ 5 then some ⟨d.val - 1, by omega⟩ else none

/-- A position symbol of a bank of modulus `n`: a code past the alphabet is sanitised to the home symbol
(R125; a code of 32 or more, which no word encodes: log 15). -/
def sanitize (n : Nat) (home : Fin n) (sym : Nat) : Fin n := if h : sym < n then ⟨sym, h⟩ else home

/-- The code of an output character (R81). -/
def OutChar.code (c : OutChar) : Nat :=
  match c with
  | .letter i => i.val
  | .digit d => 26 + d.val
  | .dash => 36
  | .space => 38

/-- The glyph of letter number `i`, `A` = 0 (R12; log 10). -/
def letterGlyph (i : Contact) : Char := Char.ofNat (65 + i.val)

/-- The glyph of digit number `d` (R12; log 10). -/
def digitGlyph (d : IndexContact) : Char := Char.ofNat (48 + d.val)

/-- The usual glyph of an output character (R81). -/
def OutChar.glyph (c : OutChar) : Char :=
  match c with
  | .letter i => letterGlyph i
  | .digit d => digitGlyph d
  | .dash => '-'
  | .space => ' '

/-- The letter number of an upper-case letter; every other character is out-of-alphabet (R12; log
10). -/
def letterValue (ch : Char) : Option Contact :=
  if h : 65 ≤ ch.toNat ∧ ch.toNat < 91 then some ⟨ch.toNat - 65, by omega⟩ else none

/-- The symbol code of a character in a bank's alphabet, 31 for a character outside it (R77, R82, R233). -/
def symbolCode (bank : Bank) (ch : Char) : Nat :=
  match bank with
  | .cipher => ((letterValue ch).map Fin.val).getD 31
  | .control => ((letterValue ch).map Fin.val).getD 31
  | .index => ((digitValue ch).map Fin.val).getD 31

end Sys2Proof.Machine
end

