-- ==== Sys2Proof/Machine/Ops.lean ====
section
/-! DEFINITION. The named operations of a rotor (40_rotor_ops.md), a bank (41_bank_ops.md) and the cage
(42_cage_ops.md). The block raises no exception (R250), so there is no exception entry or return among
them. -/

namespace Sys2Proof.Machine

/-- A rotor: a position register and the configuration of its slot (R24, R100). -/
structure Rotor (n : Nat) where
  pos : Fin n
  cfg : RotorConfig n
deriving DecidableEq, Repr

/-- The table `r.L` (R100). -/
def Rotor.L (r : Rotor n) : Vector (Fin n) n := r.cfg.wiring.fwd

/-- The table `r.R = inv(r.L)` (R100). -/
def Rotor.R (r : Rotor n) : Vector (Fin n) n := r.cfg.wiring.bwd

/-- The position after `step(r, clockwise)`: `-1` when `clockwise XOR reversed`, else `+1`, modulo `N`
(R101). -/
def Rotor.stepped [NeZero n] (r : Rotor n) (clockwise : Bool) : Fin n :=
  if clockwise ^^ r.cfg.rev then r.pos - 1 else r.pos + 1

/-- The position after `rotCW(r) = step(r, true)` (R102). -/
def Rotor.rotCW [NeZero n] (r : Rotor n) : Fin n := r.stepped true

/-- The position after `rotCCW(r) = step(r, false)` (R102). -/
def Rotor.rotCCW [NeZero n] (r : Rotor n) : Fin n := r.stepped false

/-- `rawA(r, T, in) = (T[(in + r.pos) mod N] - r.pos + N) mod N`; `Fin n` arithmetic is modulo `n`
(R103). -/
def rawA (r : Rotor n) (T : Vector (Fin n) n) (x : Fin n) : Fin n := tableAt T (x + r.pos) - r.pos

/-- `rawB(r, T, in) = (r.pos - T[(r.pos - in + N) mod N] + N) mod N` (R104). -/
def rawB (r : Rotor n) (T : Vector (Fin n) n) (x : Fin n) : Fin n := r.pos - tableAt T (r.pos - x)

/-- `passPrimary` (R105). -/
def passPrimary (r : Rotor n) (x : Fin n) : Fin n :=
  if r.cfg.rev then rawB r r.R x else rawA r r.L x

/-- `passSecondary` (R106). -/
def passSecondary (r : Rotor n) (x : Fin n) : Fin n :=
  if r.cfg.rev then rawB r r.L x else rawA r r.R x

/-- `Crot[i]` (R24). -/
def State.cipherRotor (s : State) (i : Slot) : Rotor 26 := ⟨s.C.get i, s.config.cipher.get i⟩

/-- `Krot[i]` (R24). -/
def State.controlRotor (s : State) (i : Slot) : Rotor 26 := ⟨s.K.get i, s.config.control.get i⟩

/-- `Irot[i]` (R24). -/
def State.indexRotor (s : State) (i : Slot) : Rotor 10 := ⟨s.I.get i, s.config.index.get i⟩

/-- `cipherEncrypt(x)`: `passPrimary` through slots 0 to 4 (R120). -/
def State.cipherEncrypt (s : State) (x : Contact) : Contact :=
  slotsUp.foldl (fun y i => passPrimary (s.cipherRotor i) y) x

/-- `cipherDecrypt(y)`: `passSecondary` through slots 4 to 0 (R121). -/
def State.cipherDecrypt (s : State) (y : Contact) : Contact :=
  slotsDown.foldl (fun x i => passSecondary (s.cipherRotor i) x) y

/-- `controlPath(c)`: `passSecondary` through slots 4 to 0 (R122). -/
def State.controlPath (s : State) (c : Contact) : Contact :=
  slotsDown.foldl (fun o i => passSecondary (s.controlRotor i) o) c

/-- `indexPath(i)`: `passPrimary` through slots 0 to 4 (R123). -/
def State.indexPath (s : State) (c : IndexContact) : IndexContact :=
  slotsUp.foldl (fun j i => passPrimary (s.indexRotor i) j) c

/-- The direction operand of `substitute` and `cycle` (R140). -/
inductive Direction where
  | encrypt
  | decrypt
deriving DecidableEq, Repr

/-- `substitute(direction, x)` (R140). -/
def State.substitute (s : State) (d : Direction) (x : Contact) : Contact :=
  match d with
  | .encrypt => s.cipherEncrypt x
  | .decrypt => s.cipherDecrypt x

/-- `rotCW(Krot[i])` as a register write (R102, R141). -/
def State.rotControlCW (s : State) (i : Slot) : State :=
  { s with K := s.K.set i (s.controlRotor i).rotCW }

/-- `stepControlBank()`: both home tests are sampled before any rotor moves (R141, R284). -/
def State.stepControlBank (s : State) : State :=
  let fastHome := atHome (s.K.get fastSlot)
  let mediumHome := atHome (s.K.get mediumSlot)
  let s1 := s.rotControlCW fastSlot
  let s2 := if fastHome then s1.rotControlCW mediumSlot else s1
  if mediumHome then s2.rotControlCW slowSlot else s2

/-- `C2I[v]` (R6). -/
def CrossTables.c2i (t : CrossTables) (v : Variant) : Vector (Option IndexContact) 26 :=
  match v with
  | .csp889 => t.c2i889
  | .csp2900 => t.c2i2900

/-- `DRIVE[v]` (R6). -/
def CrossTables.drive (t : CrossTables) (v : Variant) : List Contact :=
  match v with
  | .csp889 => t.drive889.toList
  | .csp2900 => t.drive2900.toList

/-- `magnetOf(v, c)`: the cipher slot a driven contact energizes, none where its path ends on a
disconnected entry (R142). -/
def State.magnetOf (s : State) (v : Variant) (c : Contact) : Option Slot :=
  match tableAt (CrossTables.c2i s.config.cross v) (s.controlPath c) with
  | none => none
  | some i => some (tableAt s.config.cross.i2m (s.indexPath i))

/-- Add the magnet of one driven contact to the set of energized slots (R143). -/
def State.energize (s : State) (v : Variant) (move : Slots Bool) (c : Contact) : Slots Bool :=
  match s.magnetOf v c with
  | none => move
  | some m => move.set m true

/-- Phase 1, `energized(v)`: the hidden `move[0..4]` (R143, R33). -/
def State.energized (s : State) (v : Variant) : Slots Bool :=
  (CrossTables.drive s.config.cross v).foldl (s.energize v) (Slots.fill false)

/-- `cdir(v, i)`: the step direction of cipher slot `i`, true for clockwise (R149). -/
def cdir (v : Variant) (i : Slot) : Bool :=
  match v with
  | .csp889 => true
  | .csp2900 => decide (i ≠ 1 ∧ i ≠ 3)

/-- Phase 2: each energized cipher rotor steps exactly once (R144). -/
def State.stepEnergized (s : State) (v : Variant) (move : Slots Bool) : State :=
  { s with C := Slots.tabulate fun i => if move.get i then (s.cipherRotor i).stepped (cdir v i) else s.C.get i }

/-- The lockup reset: `if move[0] or move[4] then lockupCount <- 0` (R145). -/
def State.lockupReset (s : State) (move : Slots Bool) : State :=
  if move.get 0 || move.get 4 then { s with lockupCount := 0 } else s

/-- `stepCipherBank(v)`: energize, then step, then the lockup reset (R146, R283). -/
def State.stepCipherBank (s : State) (v : Variant) : State :=
  let move := s.energized v
  (s.stepEnergized v move).lockupReset move

/-- `zeroize()`: Cipher and Control positions to home (R147). -/
def State.zeroizeRotors (s : State) : State :=
  { s with C := Slots.fill home26, K := Slots.fill home26 }

/-- Steps (2) and (3) of a cipher cycle: the cipher bank, then the control bank (R148, R285). On the space
operand that is the whole cycle (log 11). -/
def State.advance (s : State) (v : Variant) : State := (s.stepCipherBank v).stepControlBank

/-- `cycle(x, direction, v)` on a letter: the letter substituted at the positions before the stepping, and
the state after it (R148). -/
def State.cycle (s : State) (x : Contact) (d : Direction) (v : Variant) : Contact × State :=
  (s.substitute d x, s.advance v)

/-- One press of the Zeroize-mode Blank key: every cipher and control rotor not at home steps once (R193). -/
def State.stepTowardHome (s : State) (v : Variant) : State :=
  { s with
    C := Slots.tabulate fun i => if atHome (s.C.get i) then s.C.get i else (s.cipherRotor i).stepped (cdir v i)
    K := Slots.tabulate fun i => if atHome (s.K.get i) then s.K.get i else (s.controlRotor i).rotCW }

/-- `setPositions(bank, sym[0..4])`, each slot sanitised alone (R125). -/
def State.setPositions (s : State) (bank : Bank) (sym : Slots Nat) : State :=
  match bank with
  | .cipher => { s with C := Slots.tabulate fun i => sanitize 26 home26 (sym.get i) }
  | .control => { s with K := Slots.tabulate fun i => sanitize 26 home26 (sym.get i) }
  | .index => { s with I := Slots.tabulate fun i => sanitize 10 home10 (sym.get i) }

/-- `getPositions(bank)`: the display text, slot 0 first, by the position registers alone (R124). -/
def State.getPositions (s : State) (bank : Bank) : List Char :=
  match bank with
  | .cipher => s.C.toList.map letterGlyph
  | .control => s.K.toList.map letterGlyph
  | .index => s.I.toList.map digitGlyph

/-- `out` starts empty at every event (R10). -/
def State.beginEvent (s : State) : State := { s with out := [] }

/-- `emit(ch)` (R10). -/
def State.emit (s : State) (ch : OutChar) : State := { s with out := s.out ++ [ch] }

/-- `emit(ch, n)` (R10). -/
def State.emitN (s : State) (ch : OutChar) (n : Nat) : State := { s with out := s.out ++ List.replicate n ch }

/-- `keystrokeCount += 1` (R26). -/
def State.countKeystroke (s : State) : State := { s with keystrokeCount := s.keystrokeCount + 1 }

/-- `groupCount += 1` (R27). -/
def State.countGroup (s : State) : State := { s with groupCount := s.groupCount + 1 }

/-- `lockupCount += 1` (R25). -/
def State.countLockup (s : State) : State := { s with lockupCount := s.lockupCount + 1 }

end Sys2Proof.Machine
end

