-- ==== Sys2Proof/Machine/KeyRules.lean ====
section
/-! DEFINITION. The KEY event: gating, dispatch, and one rule for each cell of the dispatch tables
(44_key_events.md). -/

namespace Sys2Proof.Machine

/-- The outcome of every cell whose rule writes no state and emits nothing (R191, R192, R197, R200, R204,
R207). -/
def ignoreKey (s : State) : State := s

/-- Zeroize, Blank, in Reset, Encrypt or Decrypt: every non-home cipher and control rotor steps once, the
key counts, and Encrypt and Decrypt emit one space (R193). -/
def zeroizeBlankKey (v : Variant) (s : State) : State :=
  let s1 := (s.stepTowardHome v).countKeystroke
  if s.operatingSwitch = .encrypt ∨ s.operatingSwitch = .decrypt then s1.emit .space else s1

/-- Zeroize, Blank, in Plaintext: the key counts and emits one space; no rotor moves (R194). -/
def zeroizeBlankPlaintextKey (s : State) : State := s.countKeystroke.emit .space

/-- Reset, digit 1..5: the cipher bank steps, then one control rotor clockwise; the key counts (R195). -/
def resetDigitKey (v : Variant) (i : Slot) (s : State) : State :=
  ((s.stepCipherBank v).rotControlCW i).countKeystroke

/-- Reset, Blank: the cipher bank steps and the key counts (R196). -/
def resetBlankKey (v : Variant) (s : State) : State := (s.stepCipherBank v).countKeystroke

/-- Plaintext: emit a character verbatim and count the key (R198; R199 with the space). -/
def plaintextKey (ch : OutChar) (s : State) : State := (s.emit ch).countKeystroke

/-- Encrypt, Blank: a cycle on a space, one space emitted, group and keystroke counted, lockup not counted
(R202). -/
def encryptBlankKey (v : Variant) (s : State) : State :=
  (((s.advance v).emit .space).countGroup).countKeystroke

/-- Encrypt, a letter or the Space-Bar sent as contact `x`: the cycle first, then the group space, the
letter and the three counters (R203). -/
def encryptLetterKey (v : Variant) (x : Contact) (s : State) : State :=
  let (y, s1) := s.cycle x .encrypt v
  let s2 := if s1.atGroupBoundary then s1.emit .space else s1
  (((s2.emit (.letter y)).countGroup).countKeystroke).countLockup

/-- Decrypt, Blank: a cycle on a space, one space emitted, keystroke and lockup counted (R205). -/
def decryptBlankKey (v : Variant) (s : State) : State :=
  (((s.advance v).emit .space).countKeystroke).countLockup

/-- Decrypt, a letter: the cycle, then the letter or, for `Z`, a space, then keystroke and lockup (R206). -/
def decryptLetterKey (v : Variant) (x : Contact) (s : State) : State :=
  let (y, s1) := s.cycle x .decrypt v
  ((s1.emit (decryptedChar y)).countKeystroke).countLockup

/-- Dispatch with `zeroizeSwitch = Zeroize`, RPT excepted (R190). Off never reaches dispatch. -/
def zeroizeModeKey (v : Variant) (k : Key) (s : State) : State :=
  if k = .blank then
    match s.operatingSwitch with
    | .off => ignoreKey s
    | .plaintext => zeroizeBlankPlaintextKey s
    | .reset => zeroizeBlankKey v s
    | .encrypt => zeroizeBlankKey v s
    | .decrypt => zeroizeBlankKey v s
  else ignoreKey s

/-- The row Operate, Reset of the dispatch table (R190). -/
def resetModeKey (v : Variant) (k : Key) (s : State) : State :=
  match k with
  | .letter _ => ignoreKey s
  | .digit d => match resetDigitSlot d with
    | some i => resetDigitKey v i s
    | none => ignoreKey s
  | .dash => ignoreKey s
  | .blank => resetBlankKey v s
  | .spaceBar => ignoreKey s
  | .rpt => ignoreKey s

/-- The row Operate, Plaintext of the dispatch table (R190). -/
def plaintextModeKey (k : Key) (s : State) : State :=
  match k with
  | .letter i => plaintextKey (.letter i) s
  | .digit d => plaintextKey (.digit d) s
  | .dash => plaintextKey .dash s
  | .blank => plaintextKey .space s
  | .spaceBar => plaintextKey .space s
  | .rpt => ignoreKey s

/-- The row Operate, Encrypt of the dispatch table (R190). -/
def encryptModeKey (v : Variant) (k : Key) (s : State) : State :=
  if k = .blank then encryptBlankKey v s
  else match encryptContact k with
    | some x => encryptLetterKey v x s
    | none => ignoreKey s

/-- The row Operate, Decrypt of the dispatch table (R190). -/
def decryptModeKey (v : Variant) (k : Key) (s : State) : State :=
  match k with
  | .letter i => decryptLetterKey v i s
  | .digit _ => ignoreKey s
  | .dash => ignoreKey s
  | .blank => decryptBlankKey v s
  | .spaceBar => ignoreKey s
  | .rpt => ignoreKey s

/-- Dispatch with `zeroizeSwitch = Operate`, RPT excepted (R190). Off never reaches dispatch. -/
def operateModeKey (v : Variant) (k : Key) (s : State) : State :=
  match s.operatingSwitch with
  | .off => ignoreKey s
  | .reset => resetModeKey v k s
  | .plaintext => plaintextModeKey k s
  | .encrypt => encryptModeKey v k s
  | .decrypt => decryptModeKey v k s

/-- Dispatch of a key that passed the gating rule (R190). Neutral never reaches dispatch. -/
def dispatchKey (v : Variant) (k : Key) (s : State) : State :=
  if k = .rpt then ignoreKey s
  else match s.zeroizeSwitch with
    | .zeroize => zeroizeModeKey v k s
    | .neutral => ignoreKey s
    | .operate => operateModeKey v k s

/-- `KEY k` on the state at the start of the event: gating, then dispatch under the live variant (R190). -/
def handleKey (k : Key) (s : State) : State :=
  if s.keysGated then ignoreKey s
  else match s.machineVariant.variant? with
    | some v => dispatchKey v k s
    | none => ignoreKey s

/-- The KEY event (R190). -/
def keyEvent (k : Key) (s : State) : Host.Outcome State Fault Refusal := .next (handleKey k s.beginEvent)

end Sys2Proof.Machine
end

