-- ==== Sys2Proof/Machine/Keys.lean ====
section
/-! DEFINITION. The KEY rows: one meaning for each key, over the one key event of R190. -/

namespace Sys2Proof.Machine

/-- `KEY_A` (R190) -/
def execKeyA (s : State) : Host.Outcome State Fault Refusal := keyEvent (.letter 0) s

/-- `KEY_B` (R190) -/
def execKeyB (s : State) : Host.Outcome State Fault Refusal := keyEvent (.letter 1) s

/-- `KEY_C` (R190) -/
def execKeyC (s : State) : Host.Outcome State Fault Refusal := keyEvent (.letter 2) s

/-- `KEY_D` (R190) -/
def execKeyD (s : State) : Host.Outcome State Fault Refusal := keyEvent (.letter 3) s

/-- `KEY_E` (R190) -/
def execKeyE (s : State) : Host.Outcome State Fault Refusal := keyEvent (.letter 4) s

/-- `KEY_F` (R190) -/
def execKeyF (s : State) : Host.Outcome State Fault Refusal := keyEvent (.letter 5) s

/-- `KEY_G` (R190) -/
def execKeyG (s : State) : Host.Outcome State Fault Refusal := keyEvent (.letter 6) s

/-- `KEY_H` (R190) -/
def execKeyH (s : State) : Host.Outcome State Fault Refusal := keyEvent (.letter 7) s

/-- `KEY_I` (R190) -/
def execKeyI (s : State) : Host.Outcome State Fault Refusal := keyEvent (.letter 8) s

/-- `KEY_J` (R190) -/
def execKeyJ (s : State) : Host.Outcome State Fault Refusal := keyEvent (.letter 9) s

/-- `KEY_K` (R190) -/
def execKeyK (s : State) : Host.Outcome State Fault Refusal := keyEvent (.letter 10) s

/-- `KEY_L` (R190) -/
def execKeyL (s : State) : Host.Outcome State Fault Refusal := keyEvent (.letter 11) s

/-- `KEY_M` (R190) -/
def execKeyM (s : State) : Host.Outcome State Fault Refusal := keyEvent (.letter 12) s

/-- `KEY_N` (R190) -/
def execKeyN (s : State) : Host.Outcome State Fault Refusal := keyEvent (.letter 13) s

/-- `KEY_O` (R190) -/
def execKeyO (s : State) : Host.Outcome State Fault Refusal := keyEvent (.letter 14) s

/-- `KEY_P` (R190) -/
def execKeyP (s : State) : Host.Outcome State Fault Refusal := keyEvent (.letter 15) s

/-- `KEY_Q` (R190) -/
def execKeyQ (s : State) : Host.Outcome State Fault Refusal := keyEvent (.letter 16) s

/-- `KEY_R` (R190) -/
def execKeyR (s : State) : Host.Outcome State Fault Refusal := keyEvent (.letter 17) s

/-- `KEY_S` (R190) -/
def execKeyS (s : State) : Host.Outcome State Fault Refusal := keyEvent (.letter 18) s

/-- `KEY_T` (R190) -/
def execKeyT (s : State) : Host.Outcome State Fault Refusal := keyEvent (.letter 19) s

/-- `KEY_U` (R190) -/
def execKeyU (s : State) : Host.Outcome State Fault Refusal := keyEvent (.letter 20) s

/-- `KEY_V` (R190) -/
def execKeyV (s : State) : Host.Outcome State Fault Refusal := keyEvent (.letter 21) s

/-- `KEY_W` (R190) -/
def execKeyW (s : State) : Host.Outcome State Fault Refusal := keyEvent (.letter 22) s

/-- `KEY_X` (R190) -/
def execKeyX (s : State) : Host.Outcome State Fault Refusal := keyEvent (.letter 23) s

/-- `KEY_Y` (R190) -/
def execKeyY (s : State) : Host.Outcome State Fault Refusal := keyEvent (.letter 24) s

/-- `KEY_Z` (R190) -/
def execKeyZ (s : State) : Host.Outcome State Fault Refusal := keyEvent (.letter 25) s

/-- `KEY_0` (R190) -/
def execKey0 (s : State) : Host.Outcome State Fault Refusal := keyEvent (.digit 0) s

/-- `KEY_1` (R190) -/
def execKey1 (s : State) : Host.Outcome State Fault Refusal := keyEvent (.digit 1) s

/-- `KEY_2` (R190) -/
def execKey2 (s : State) : Host.Outcome State Fault Refusal := keyEvent (.digit 2) s

/-- `KEY_3` (R190) -/
def execKey3 (s : State) : Host.Outcome State Fault Refusal := keyEvent (.digit 3) s

/-- `KEY_4` (R190) -/
def execKey4 (s : State) : Host.Outcome State Fault Refusal := keyEvent (.digit 4) s

/-- `KEY_5` (R190) -/
def execKey5 (s : State) : Host.Outcome State Fault Refusal := keyEvent (.digit 5) s

/-- `KEY_6` (R190) -/
def execKey6 (s : State) : Host.Outcome State Fault Refusal := keyEvent (.digit 6) s

/-- `KEY_7` (R190) -/
def execKey7 (s : State) : Host.Outcome State Fault Refusal := keyEvent (.digit 7) s

/-- `KEY_8` (R190) -/
def execKey8 (s : State) : Host.Outcome State Fault Refusal := keyEvent (.digit 8) s

/-- `KEY_9` (R190) -/
def execKey9 (s : State) : Host.Outcome State Fault Refusal := keyEvent (.digit 9) s

/-- `KEY_DASH` (R190) -/
def execKeyDash (s : State) : Host.Outcome State Fault Refusal := keyEvent .dash s

/-- `KEY_BLANK` (R190) -/
def execKeyBlank (s : State) : Host.Outcome State Fault Refusal := keyEvent .blank s

/-- `KEY_SPACE` (R190) -/
def execKeySpace (s : State) : Host.Outcome State Fault Refusal := keyEvent .spaceBar s

/-- `KEY_RPT` (R190) -/
def execKeyRpt (s : State) : Host.Outcome State Fault Refusal := keyEvent .rpt s

end Sys2Proof.Machine
end

