-- ==== Sys2Proof/Machine/Positions.lean ====
section
/-! DEFINITION. ZEROIZE and the position overrides (R174, R175). -/

namespace Sys2Proof.Machine

/-- `ZEROIZE`: Cipher and Control positions to home; not gated, and it releases no lockup (R174). -/
def execZeroize (s : State) : Host.Outcome State Fault Refusal := .next s.beginEvent.zeroizeRotors

/-- The SETPOS event: override the five positions of one bank; not gated (R175). -/
def setposEvent (bank : Bank) (sym : Slots Nat) (s : State) : Host.Outcome State Fault Refusal :=
  .next (s.beginEvent.setPositions bank sym)

/-- `SETPOS_CIPHER` (R175) -/
def execSetposCipher (sym0 sym1 sym2 sym3 sym4 : Nat) (s : State) : Host.Outcome State Fault Refusal :=
  setposEvent .cipher ⟨sym0, sym1, sym2, sym3, sym4⟩ s

/-- `SETPOS_CONTROL` (R175) -/
def execSetposControl (sym0 sym1 sym2 sym3 sym4 : Nat) (s : State) : Host.Outcome State Fault Refusal :=
  setposEvent .control ⟨sym0, sym1, sym2, sym3, sym4⟩ s

/-- `SETPOS_INDEX` (R175) -/
def execSetposIndex (sym0 sym1 sym2 sym3 sym4 : Nat) (s : State) : Host.Outcome State Fault Refusal :=
  setposEvent .index ⟨sym0, sym1, sym2, sym3, sym4⟩ s

end Sys2Proof.Machine
end

