-- ==== Sys2Proof/Machine/Switches.lean ====
section
/-! DEFINITION. NOP, the reserved event word, and the three switch events (43_switch_events.md). -/

namespace Sys2Proof.Machine

/-- `NOP`: no state written, empty output (R170). -/
def execNop (s : State) : Host.Outcome State Fault Refusal := .next s.beginEvent

/-- `Invalid`, the event of every reserved word: no state written, empty output (R176, R208; log 7). It is
no row of the opcode table; `step` runs it where the decoder rejects a word. -/
def execInvalid (s : State) : Host.Outcome State Fault Refusal := .next s.beginEvent

/-- Clause (a): setting Off, Plaintext or Reset zeroes `lockupCount` (R171). -/
def clearLockupFor (new : OperatingSwitch) (s : State) : State :=
  if new = .off ∨ new = .plaintext ∨ new = .reset then { s with lockupCount := 0 } else s

/-- Clause (b): setting Off zeroes `groupCount` (R171). -/
def clearGroupFor (new : OperatingSwitch) (s : State) : State :=
  if new = .off then { s with groupCount := 0 } else s

/-- Clause (c): a transition into Reset from Plaintext or Encrypt emits the padding and zeroes `groupCount`
(R171). -/
def padGroupFor (new old : OperatingSwitch) (s : State) : State :=
  if new = .reset ∧ (old = .plaintext ∨ old = .encrypt) then
    { s.emitN .space s.paddingCount with groupCount := 0 }
  else s

/-- The two register writes of SETOP (R171, R29). -/
def writeOperatingSwitch (new old : OperatingSwitch) (s : State) : State :=
  { s with previousOperatingSwitch := old, operatingSwitch := new }

/-- `SETOP new` on the state at the start of the event; not gated (R171). -/
def setOperatingSwitch (new : OperatingSwitch) (s : State) : State :=
  writeOperatingSwitch new s.operatingSwitch
    (padGroupFor new s.operatingSwitch (clearGroupFor new (clearLockupFor new s)))

/-- The SETOP event (R171). -/
def setopEvent (new : OperatingSwitch) (s : State) : Host.Outcome State Fault Refusal :=
  .next (setOperatingSwitch new s.beginEvent)

/-- The SETZ event: `zeroizeSwitch <- z` and nothing else (R172). -/
def setzEvent (z : ZeroizeSwitch) (s : State) : Host.Outcome State Fault Refusal :=
  .next { s.beginEvent with zeroizeSwitch := z }

/-- The SETVAR event: `machineVariant <- v` and nothing else (R173). -/
def setvarEvent (v : VariantSwitch) (s : State) : Host.Outcome State Fault Refusal :=
  .next { s.beginEvent with machineVariant := v }

/-- `SETOP_OFF` (R171) -/
def execSetopOff (s : State) : Host.Outcome State Fault Refusal := setopEvent .off s

/-- `SETOP_PLAIN` (R171) -/
def execSetopPlain (s : State) : Host.Outcome State Fault Refusal := setopEvent .plaintext s

/-- `SETOP_RESET` (R171) -/
def execSetopReset (s : State) : Host.Outcome State Fault Refusal := setopEvent .reset s

/-- `SETOP_ENC` (R171) -/
def execSetopEnc (s : State) : Host.Outcome State Fault Refusal := setopEvent .encrypt s

/-- `SETOP_DEC` (R171) -/
def execSetopDec (s : State) : Host.Outcome State Fault Refusal := setopEvent .decrypt s

/-- `SETZ_ZEROIZE` (R172) -/
def execSetzZeroize (s : State) : Host.Outcome State Fault Refusal := setzEvent .zeroize s

/-- `SETZ_NEUTRAL` (R172) -/
def execSetzNeutral (s : State) : Host.Outcome State Fault Refusal := setzEvent .neutral s

/-- `SETZ_OPERATE` (R172) -/
def execSetzOperate (s : State) : Host.Outcome State Fault Refusal := setzEvent .operate s

/-- `SETVAR_CSP889` (R173) -/
def execSetvarCsp889 (s : State) : Host.Outcome State Fault Refusal := setvarEvent .csp889 s

/-- `SETVAR_CSP2900` (R173) -/
def execSetvarCsp2900 (s : State) : Host.Outcome State Fault Refusal := setvarEvent .csp2900 s

/-- `SETVAR_NEUTRAL` (R173) -/
def execSetvarNeutral (s : State) : Host.Outcome State Fault Refusal := setvarEvent .neutral s

end Sys2Proof.Machine
end

