-- ==== Sys2Proof/Machine/Dispatch.lean ====
section
/-! DEFINITION. The meaning of an instruction: one arm for each constructor, one call an arm. -/

namespace Sys2Proof.Machine

def exec (i : Instr) (s : State) : Host.Outcome State Fault Refusal :=
  match i with
  | .nop => Sys2Proof.Machine.execNop s
  | .keyA => Sys2Proof.Machine.execKeyA s
  | .keyB => Sys2Proof.Machine.execKeyB s
  | .keyC => Sys2Proof.Machine.execKeyC s
  | .keyD => Sys2Proof.Machine.execKeyD s
  | .keyE => Sys2Proof.Machine.execKeyE s
  | .keyF => Sys2Proof.Machine.execKeyF s
  | .keyG => Sys2Proof.Machine.execKeyG s
  | .keyH => Sys2Proof.Machine.execKeyH s
  | .keyI => Sys2Proof.Machine.execKeyI s
  | .keyJ => Sys2Proof.Machine.execKeyJ s
  | .keyK => Sys2Proof.Machine.execKeyK s
  | .keyL => Sys2Proof.Machine.execKeyL s
  | .keyM => Sys2Proof.Machine.execKeyM s
  | .keyN => Sys2Proof.Machine.execKeyN s
  | .keyO => Sys2Proof.Machine.execKeyO s
  | .keyP => Sys2Proof.Machine.execKeyP s
  | .keyQ => Sys2Proof.Machine.execKeyQ s
  | .keyR => Sys2Proof.Machine.execKeyR s
  | .keyS => Sys2Proof.Machine.execKeyS s
  | .keyT => Sys2Proof.Machine.execKeyT s
  | .keyU => Sys2Proof.Machine.execKeyU s
  | .keyV => Sys2Proof.Machine.execKeyV s
  | .keyW => Sys2Proof.Machine.execKeyW s
  | .keyX => Sys2Proof.Machine.execKeyX s
  | .keyY => Sys2Proof.Machine.execKeyY s
  | .keyZ => Sys2Proof.Machine.execKeyZ s
  | .key0 => Sys2Proof.Machine.execKey0 s
  | .key1 => Sys2Proof.Machine.execKey1 s
  | .key2 => Sys2Proof.Machine.execKey2 s
  | .key3 => Sys2Proof.Machine.execKey3 s
  | .key4 => Sys2Proof.Machine.execKey4 s
  | .key5 => Sys2Proof.Machine.execKey5 s
  | .key6 => Sys2Proof.Machine.execKey6 s
  | .key7 => Sys2Proof.Machine.execKey7 s
  | .key8 => Sys2Proof.Machine.execKey8 s
  | .key9 => Sys2Proof.Machine.execKey9 s
  | .keyDash => Sys2Proof.Machine.execKeyDash s
  | .keyBlank => Sys2Proof.Machine.execKeyBlank s
  | .keySpace => Sys2Proof.Machine.execKeySpace s
  | .keyRpt => Sys2Proof.Machine.execKeyRpt s
  | .setopOff => Sys2Proof.Machine.execSetopOff s
  | .setopPlain => Sys2Proof.Machine.execSetopPlain s
  | .setopReset => Sys2Proof.Machine.execSetopReset s
  | .setopEnc => Sys2Proof.Machine.execSetopEnc s
  | .setopDec => Sys2Proof.Machine.execSetopDec s
  | .setzZeroize => Sys2Proof.Machine.execSetzZeroize s
  | .setzNeutral => Sys2Proof.Machine.execSetzNeutral s
  | .setzOperate => Sys2Proof.Machine.execSetzOperate s
  | .setvarCsp889 => Sys2Proof.Machine.execSetvarCsp889 s
  | .setvarCsp2900 => Sys2Proof.Machine.execSetvarCsp2900 s
  | .setvarNeutral => Sys2Proof.Machine.execSetvarNeutral s
  | .zeroize => Sys2Proof.Machine.execZeroize s
  | .setposCipher a b c d e => Sys2Proof.Machine.execSetposCipher a b c d e s
  | .setposControl a b c d e => Sys2Proof.Machine.execSetposControl a b c d e s
  | .setposIndex a b c d e => Sys2Proof.Machine.execSetposIndex a b c d e s

end Sys2Proof.Machine
end

