-- ==== Sys2Proof/Machine/Fetch.lean ====
section
/-! DEFINITION. The event port: the words the host has presented, taken one a step (R57, R230; log 1). -/

namespace Sys2Proof.Machine

/-- The word on the event port, none while `ev_valid` is 0 (R230). -/
def State.nextEvent (s : State) : Option Word := s.events.head?

/-- The state once the word on the port is taken. -/
def State.popEvent (s : State) : State := { s with events := s.events.tail }

/-- The state with `w` presented as the very next event. -/
def State.present (s : State) (w : Word) : State := { s with events := w :: s.events }

/-- The state with the word `w` presented after those still pending (R57). -/
def State.enqueue (s : State) (w : Word) : State := { s with events := s.events ++ [w] }

/-- The word whose bits, numbered as spec/opcode_table.json numbers them, are the low `nbits` bits of `w`. -/
def tableWord (nbits w : Nat) : Word := BitVec.ofNat 32 (w % 2 ^ nbits)

end Sys2Proof.Machine
end

