-- ==== Sys2Proof/Machine/Step.lean ====
section
/-! DEFINITION. One step: take the word on the event port, decode it and run it. -/

namespace Sys2Proof.Machine

/-- One transition (R11). With no event presented the block holds its state and its outputs (R230; log 2);
a reserved word is the event `Invalid` (R79, R176). -/
def step (s : State) : Host.Outcome State Fault Refusal :=
  match s.nextEvent with
  | none => .next s
  | some w =>
    match decode w with
    | .ok i => exec i s.popEvent
    | .error _ => execInvalid s.popEvent

/-- `s` with the instruction of bits `w` presented as the next event (log 1). -/
def State.withFetchWord (s : State) (nbits w : Nat) : State := s.present (tableWord nbits w)

end Sys2Proof.Machine
end

