-- ==== Sys2Proof/Machine/HostPort.lean ====
section
/-! DEFINITION. What the host can do besides presenting events, and what it reads back
(45_host_interface.md, 70_reset_and_hazards.md section 1). -/

namespace Sys2Proof.Machine

/-- The parameters of R6 as a host supplies them, unchecked. -/
structure RawParameters where
  cipherTables : List (Vector Contact 26)
  controlTables : List (Vector Contact 26)
  indexTables : List (Vector IndexContact 10)
  c2i889 : Vector (Option IndexContact) 26
  c2i2900 : Vector (Option IndexContact) 26
  i2m : Vector Slot 10
  drive889 : Vector Contact 4
  drive2900 : Vector Contact 6
  cipherOrder : RotorOrder
  controlOrder : RotorOrder
  indexOrder : RotorOrder
deriving DecidableEq, Repr

/-- `inv(T)`: entry `y` is the first `i` with `T[i] = y` (R7); `y` itself where there is none, which is
never read since such a table is refused. -/
def inverseTable (T : Vector (Fin n) n) : Vector (Fin n) n :=
  Vector.ofFn fun y => ((List.finRange n).find? fun i => decide (tableAt T i = y)).getD y

/-- A wiring table, refused unless it is a permutation (R7, U9; log 8). -/
def loadWiring (T : Vector (Fin n) n) : Except Refusal (Wiring n) :=
  if h : ∀ i : Fin n, tableAt (inverseTable T) (tableAt T i) = i then .ok ⟨T, inverseTable T, h⟩ else .error .nonBijectiveWiring

/-- The tables of a pool, each one checked. -/
def loadWirings (ts : List (Vector (Fin n) n)) : Except Refusal (List (Wiring n)) :=
  match ts with
  | [] => .ok []
  | t :: rest =>
    match loadWiring t, loadWirings rest with
    | .ok w, .ok ws => .ok (w :: ws)
    | .error e, _ => .error e
    | _, .error e => .error e

/-- A pool of at least one table (R6). -/
def loadPool (ts : List (Vector (Fin n) n)) : Except Refusal (Pool n) :=
  match loadWirings ts with
  | .ok (w :: ws) => .ok ⟨w, ws⟩
  | .ok [] => .error .emptyPool
  | .error e => .error e

/-- The cross tables, refused unless they meet the counts of R6. -/
def loadCross (p : RawParameters) : Except Refusal CrossTables :=
  if h : p.c2i2900.toList.count none = 3 ∧ p.drive889.toList.Nodup ∧ p.drive2900.toList.Nodup then
    .ok ⟨p.c2i889, p.c2i2900, p.i2m, p.drive889, p.drive2900, h.1, h.2.1, h.2.2⟩
  else .error .malformedCrossTables

/-- The parameters, checked (R6, R7). -/
def loadParameters (p : RawParameters) : Except Refusal Parameters :=
  match loadPool p.cipherTables, loadPool p.controlTables, loadPool p.indexTables, loadCross p with
  | .ok a, .ok b, .ok c, .ok x => .ok ⟨a, b, c, x, p.cipherOrder, p.controlOrder, p.indexOrder⟩
  | .error e, _, _, _ => .error e
  | _, .error e, _, _ => .error e
  | _, _, .error e, _ => .error e
  | _, _, _, .error e => .error e

/-- The `rst` input: one atomic transition that configures the block and gives every register its reset
value, by default those of R36; it emits nothing (R8, R230, R231, R280). The words the host has still to
present stay with the host (log 12). -/
def assertReset (p : RawParameters) (s : State) (values : ResetValues := ResetValues.decided) :
    Host.Outcome State Fault Refusal :=
  match loadParameters p with
  | .ok q => .next { State.resetWith (configure q) values with events := s.events }
  | .error e => .refused e

/-- The five symbol codes of a text of any length: a missing or out-of-alphabet symbol is code 31, symbols
past the fifth are dropped (R233). -/
def textSymbols (bank : Bank) (text : List Char) : Slots Nat :=
  Slots.tabulate fun i => match text[i.val]? with
    | some ch => symbolCode bank ch
    | none => 31

/-- The SETPOS row of a bank and five symbol codes (R77). -/
def setposInstr (bank : Bank) (sym : Slots Nat) : Instr :=
  match bank with
  | .cipher => .setposCipher sym.slot0 sym.slot1 sym.slot2 sym.slot3 sym.slot4
  | .control => .setposControl sym.slot0 sym.slot1 sym.slot2 sym.slot3 sym.slot4
  | .index => .setposIndex sym.slot0 sym.slot1 sym.slot2 sym.slot3 sym.slot4

/-- `setCipherPositions(text)`, `setControlPositions(text)`, `setIndexPositions(text)`: the one SETPOS
event they issue (R233, R236). -/
def setPositionsText (bank : Bank) (text : List Char) : Instr := setposInstr bank (textSymbols bank text)

/-- The output ports (R230). -/
structure Ports where
  outLen : Nat
  /-- `out_ch[0..3]`, `out_ch[0]` first; none at and past `out_len` (log 16) -/
  outCh : Vector (Option OutChar) 4
  dispCipher : Slots Contact
  dispControl : Slots Contact
  dispIndex : Slots IndexContact
  keystrokeCount : Nat
  groupCount : Nat
  lockupCount : Nat
  isLocked : Bool
deriving DecidableEq, Repr

/-- What the host reads between events: a function of the state, without effect (R230, R234, R237, R259). -/
def State.ports (s : State) : Ports where
  outLen := s.out.length
  outCh := #v[s.out[0]?, s.out[1]?, s.out[2]?, s.out[3]?]
  dispCipher := s.C
  dispControl := s.K
  dispIndex := s.I
  keystrokeCount := s.keystrokeCount
  groupCount := s.groupCount
  lockupCount := s.lockupCount
  isLocked := s.isLocked

/-- The display text of a bank (R234). -/
def State.display (s : State) (bank : Bank) : List Char := s.getPositions bank

/-- The SETOP row of a switch position (R73). -/
def OperatingSwitch.instr (sw : OperatingSwitch) : Instr :=
  match sw with
  | .off => .setopOff
  | .plaintext => .setopPlain
  | .reset => .setopReset
  | .encrypt => .setopEnc
  | .decrypt => .setopDec

/-- The SETZ row of a switch position (R74). -/
def ZeroizeSwitch.instr (z : ZeroizeSwitch) : Instr :=
  match z with
  | .zeroize => .setzZeroize
  | .neutral => .setzNeutral
  | .operate => .setzOperate

/-- The SETVAR row of a switch position (R75). -/
def VariantSwitch.instr (v : VariantSwitch) : Instr :=
  match v with
  | .csp889 => .setvarCsp889
  | .csp2900 => .setvarCsp2900
  | .neutral => .setvarNeutral

/-- `handleOperatingSwitchChange(newState)` of the source: one SETOP event (R236). -/
def handleOperatingSwitchCall (sw : OperatingSwitch) : List Instr := [sw.instr]

/-- `handleKey(key, operatingSwitch, zeroizeSwitch, variant)` of the source, as a host must issue it: a
switch event for each position that differs from the one last set, then the key (R235, R286; log 13). -/
def handleKeyCall (s : State) (k : Key) (sw : OperatingSwitch) (z : ZeroizeSwitch) (v : VariantSwitch) : List Instr :=
  (if s.operatingSwitch = sw then [] else [sw.instr]) ++
  (if s.zeroizeSwitch = z then [] else [z.instr]) ++
  (if s.machineVariant = v then [] else [v.instr]) ++ [k.instr]

/-- The pseudo-event `INIT v` (R83, R281). -/
def initEvents (v : VariantSwitch) : List Instr :=
  [.zeroize, .setposIndex 0 0 0 0 0, v.instr, .setzOperate]

/-- The key a character of a `TYPE` text stands for (R83). -/
def typedKey (ch : Char) : Option Key :=
  match letterValue ch, digitValue ch with
  | some i, _ => some (.letter i)
  | none, some d => some (.digit d)
  | none, none => if ch = '-' then some .dash else if ch = ' ' then some .spaceBar else if ch = '_' then some .blank else none

/-- The pseudo-event `TYPE "<text>"`: one KEY for each character, none where a character is not allowed
(R83). -/
def typeEvents (text : List Char) : Option (List Instr) :=
  match text with
  | [] => some []
  | ch :: rest =>
    match typedKey ch, typeEvents rest with
    | some k, some is => some (k.instr :: is)
    | _, _ => none

end Sys2Proof.Machine
end

