-- ==== Sys2Proof/Machine/Run.lean ====
section
/-! DEFINITION. Runs: the host presents event words in order and appends each event's output list to the
stream it owns (R11, R34, R57). -/

namespace Sys2Proof.Machine

/-- Present the words one at a time: the state after them and the output stream they append, none if a
step stopped (no step does: R250). -/
def runWords (ws : List Word) (s : State) : Option (State × List OutChar) :=
  match ws with
  | [] => some (s, [])
  | w :: rest =>
    match step (s.present w) with
    | .next t => (runWords rest t).map fun r => (r.1, t.out ++ r.2)
    | .fault _ => none
    | .refused _ => none

/-- The letter keys that type the letters of an output stream; its grouping spaces are not typed (R282). -/
def letterKeys (stream : List OutChar) : List Key :=
  stream.filterMap fun ch =>
    match ch with
    | .letter i => some (.letter i)
    | .digit _ => none
    | .dash => none
    | .space => none

/-- The words of a list of keys (R72). -/
def keyWords (ks : List Key) : List Word := ks.map fun k => encode k.instr

end Sys2Proof.Machine
end

