-- ==== Sys2Proof/Safety.lean ====
section
/-! DEFINITION. The terms the statements use: live keys, the counter invariant, blocks in step, reserved
words, what a sent key comes back as. -/

namespace Sys2Proof.Machine

/-- The keys are not gated: the operating switch stands at `op`, the zeroize switch at `z`, the variant switch
selects `v`, and the block is not locked (R190). Only for `op ≠ Off` and `z ≠ Neutral` is a key then
live. -/
abbrev KeyLive (s : State) (op : OperatingSwitch) (z : ZeroizeSwitch) (v : Variant) : Prop :=
  s.operatingSwitch = op ∧ s.zeroizeSwitch = z ∧ s.machineVariant.variant? = some v ∧ s.lockupCount < 21

/-- What the counters and the output ports satisfy after every event (R25, R26, R27, R171, R230, R260). -/
structure CountersOk (s : State) : Prop where
  /-- `lockupCount` stays in 0..21 (R25) -/
  lockup_le_limit : s.lockupCount ≤ 21
  /-- every key that counts toward lockup counts as a keystroke (R203, R205, R206) -/
  lockup_le_keystrokes : s.lockupCount ≤ s.keystrokeCount
  /-- every key that counts in a group counts as a keystroke (R202, R203) -/
  group_le_keystrokes : s.groupCount ≤ s.keystrokeCount
  /-- in Off, Plaintext and Reset `lockupCount` is 0 (R171 corner case 4) -/
  lockup_zero : s.operatingSwitch = .off ∨ s.operatingSwitch = .plaintext ∨ s.operatingSwitch = .reset → s.lockupCount = 0
  /-- in Off `groupCount` is 0 (R171 corner case 3) -/
  group_zero : s.operatingSwitch = .off → s.groupCount = 0
  /-- `out_len <= 4` (R230) -/
  out_le_four : s.out.length ≤ 4

/-- Two blocks in step: the same configuration, variant, positions and lockup count (R282). -/
abbrev SameTraffic (s t : State) : Prop :=
  s.config = t.config ∧ s.machineVariant = t.machineVariant ∧ s.C = t.C ∧ s.K = t.K ∧ s.I = t.I ∧
    s.lockupCount = t.lockupCount

/-- A key that Encrypt sends: a letter or the Space-Bar (R203). -/
def isTrafficKey (k : Key) : Bool :=
  match k with
  | .letter _ => true
  | .digit _ => false
  | .dash => false
  | .blank => false
  | .spaceBar => true
  | .rpt => false

/-- What a sent key comes back as: a typed `Z` as `X`, a typed Space-Bar as a space, any other letter as
itself (R206). -/
def receivedAs (k : Key) : OutChar :=
  match k with
  | .letter i => .letter (if i = 25 then 23 else i)
  | .digit _ => .space
  | .dash => .space
  | .blank => .space
  | .spaceBar => .space
  | .rpt => .space

/-- A word is reserved when its opcode is 7..15, or a must-be-zero payload bit is 1, or a code field holds a
reserved value (R79). -/
abbrev ReservedWord (w : Word) : Prop :=
  7 ≤ evBits w 31 28 ∨
  ((evBits w 31 28 = 0 ∨ evBits w 31 28 = 5) ∧ evBits w 27 0 ≠ 0) ∨
  (evBits w 31 28 = 1 ∧ (evBits w 27 6 ≠ 0 ∨ 40 ≤ evBits w 5 0)) ∨
  (evBits w 31 28 = 2 ∧ (evBits w 27 3 ≠ 0 ∨ 5 ≤ evBits w 2 0)) ∨
  ((evBits w 31 28 = 3 ∨ evBits w 31 28 = 4) ∧ (evBits w 27 2 ≠ 0 ∨ evBits w 1 0 = 3)) ∨
  (evBits w 31 28 = 6 ∧ (evBits w 25 25 ≠ 0 ∨ evBits w 27 26 = 3))

/-- What R231 makes of one configuration pair. -/
abbrev SlotConfigured (p : Pool n) (c : SlotChoice) (r : RotorConfig n) : Prop :=
  (0 ≤ c.wiringIndex ∧ c.wiringIndex < 1 + p.more.length →
    (p.entry0 :: p.more)[c.wiringIndex.toNat]? = some r.wiring) ∧
  (c.wiringIndex < 0 ∨ 1 + p.more.length ≤ c.wiringIndex → r.wiring = p.entry0) ∧
  (r.rev = true ↔ c.orientation = .reversed)

/-- The position letter a text gives slot `j`, home where the symbol is missing or out of the alphabet
(R233, R125; code points: log 10). -/
def textLetter (text : List Char) (j : Slot) : Nat :=
  match text[j.val]? with
  | some ch => if 65 ≤ ch.toNat ∧ ch.toNat ≤ 90 then ch.toNat - 65 else 14
  | none => 14

/-- The position digit a text gives slot `j`, 0 where the symbol is missing or no digit (R233, R125;
code points: log 10). -/
def textDigit (text : List Char) (j : Slot) : Nat :=
  match text[j.val]? with
  | some ch => if 48 ≤ ch.toNat ∧ ch.toNat ≤ 57 then ch.toNat - 48 else 0
  | none => 0

end Sys2Proof.Machine
end

