-- ==== Sys2Proof/Certificates/Slice0/Obligations.lean ====
section
/-! DEFINITION. The statements about the model, each after the rule of the spec it formalises. -/

open Sys2Proof Sys2Proof.Machine

/-- Decoding the encoded word of a well-formed instruction gives it back. Derived: 30_encoding.md R80
(decode(encode(e)) = e); 30_encoding.md R71 to R78. -/
def Obligations.DecodeOfEncodeIsTheInstruction : Prop :=
  ∀ i : Instr, i.wellFormed = true → decode (encode i) = .ok i

/-- A decoded word is the encoding of the well-formed instruction it decodes to. Derived: 30_encoding.md R80;
30_encoding.md R71 to R79. -/
def Obligations.EncodeOfDecodeIsTheWord : Prop :=
  ∀ (w : Word) (i : Instr), decode w = .ok i → i.wellFormed = true ∧ encode i = w

/-- The decoder rejects exactly the reserved words. Derived: 30_encoding.md R79 (first sentence);
44_key_events.md R208. -/
def Obligations.ReservedWordsAreExactlyTheRejected : Prop :=
  ∀ w : Word, (∃ e, decode w = .error e) ↔ ReservedWord w

/-- A reserved word changes nothing and emits nothing. The spec lets a model refuse such a word instead; taking
the no-op is the choice of this model (log 7). Derived: 43_switch_events.md R176 (decision D6). -/
def Obligations.ReservedWordIsIgnored : Prop :=
  ∀ (w : Word) (rest : List Word) (e : Reserved) (s : State),
    s.events = w :: rest → decode w = .error e → step s = .next { s with out := [], events := rest }

/-- A step runs the decoded instruction. Derived: 00_scope.md R11; 20_memory.md R57. -/
def Obligations.StepRunsTheDecodedInstruction : Prop :=
  ∀ (w : Word) (rest : List Word) (i : Instr) (s : State),
    s.events = w :: rest → decode w = .ok i → i.wellFormed = true → step s = exec i { s with events := rest }

/-- With no event presented a step changes nothing (model convention, log 2). Derived: 45_host_interface.md R230
(between occurrences the state and the display and counter outputs hold). -/
def Obligations.StepHoldsWithoutEvent : Prop :=
  ∀ s : State, s.events = [] → step s = .next s

/-- Eight words written out from the encoding tables decode to their instructions. Derived: 30_encoding.md
section 6 (worked encodings). -/
def Obligations.SampleWordsDecode : Prop :=
  decode 0x10000007#32 = .ok .keyH ∧ decode 0x10000025#32 = .ok .keyBlank ∧
  decode 0x20000002#32 = .ok .setopReset ∧ decode 0x30000002#32 = .ok .setzOperate ∧
  decode 0x40000001#32 = .ok .setvarCsp2900 ∧ decode 0x50000000#32 = .ok .zeroize ∧
  decode 0x64418820#32 = .ok (.setposControl 0 1 2 3 4) ∧ decode 0x68527C41#32 = .ok (.setposIndex 1 2 31 4 5)

/-- Each KEY row is the key of its key code. Derived: 30_encoding.md R72; 30_encoding.md R84. -/
def Obligations.KeyRowsFollowTheKeyCodes : Prop :=
  (∀ (i : Instr) (k : Key), i.wellFormed = true →
    (i.key? = some k ↔ (encode i).toNat = 0x10000000 + k.code)) ∧
  ∀ k : Key, k.instr.key? = some k

/-- No step stops: every state, every word. Stated: R250. -/
def Obligations.EveryStepAnswersNext : Prop :=
  ∀ s : State, ∃ t, step s = .next t

/-- step moves the position by one in the direction clockwise XOR reversed. Stated: R101. -/
def Obligations.RotorStepDirection : Prop :=
  ∀ (n : Nat) [NeZero n] (r : Rotor n) (clockwise : Bool),
    (r.stepped clockwise).val =
      if xor clockwise r.cfg.rev = true then (r.pos.val + n - 1) % n else (r.pos.val + 1) % n

/-- rotCW then rotCCW, and rotCCW then rotCW, restore the position; N rotCW steps too. Derived: 40_rotor_ops.md
R102. -/
def Obligations.RotationsUndoEachOther : Prop :=
  ∀ (n : Nat) [NeZero n] (r : Rotor n),
    ({ r with pos := r.rotCW } : Rotor n).rotCCW = r.pos ∧ ({ r with pos := r.rotCCW } : Rotor n).rotCW = r.pos ∧
      ((fun p => ({ r with pos := p } : Rotor n).rotCW)^[n]) r.pos = r.pos

/-- rawA and rawB compute the source formulas. Stated: R103; R104. -/
def Obligations.RawFormsValues : Prop :=
  ∀ (n : Nat) (r : Rotor n) (T : Vector (Fin n) n) (x : Fin n) (a b : Fin n),
    a.val = (x.val + r.pos.val) % n → b.val = (r.pos.val + n - x.val) % n →
      (rawA r T x).val = ((tableAt T a).val + n - r.pos.val) % n ∧
        (rawB r T x).val = (r.pos.val + n - (tableAt T b).val) % n

/-- The two passes select the table and the form by the orientation. Stated: R105; R106. -/
def Obligations.PassesSelectTableAndForm : Prop :=
  ∀ (n : Nat) (r : Rotor n) (x : Fin n),
    (r.cfg.rev = true →
      passPrimary r x = rawB r r.cfg.wiring.bwd x ∧ passSecondary r x = rawB r r.cfg.wiring.fwd x) ∧
    (r.cfg.rev = false →
      passPrimary r x = rawA r r.cfg.wiring.fwd x ∧ passSecondary r x = rawA r r.cfg.wiring.bwd x) ∧
    ((∀ j : Fin n, tableAt r.cfg.wiring.fwd j = j) → passPrimary r x = x)

/-- The two passes of a rotor are mutually inverse. Derived: 40_rotor_ops.md R107 (derived from R7, R105, R106). -/
def Obligations.PassesAreInverse : Prop :=
  ∀ (n : Nat) (r : Rotor n) (x : Fin n),
    passSecondary r (passPrimary r x) = x ∧ passPrimary r (passSecondary r x) = x

/-- The four traversals chain the passes in their slot orders. Derived: 41_bank_ops.md R120, R121, R122, R123. -/
def Obligations.TraversalsChainThePasses : Prop :=
  ∀ (s : State) (x : Contact) (j : IndexContact),
    s.cipherEncrypt x =
      passPrimary (s.cipherRotor 4) (passPrimary (s.cipherRotor 3) (passPrimary (s.cipherRotor 2)
        (passPrimary (s.cipherRotor 1) (passPrimary (s.cipherRotor 0) x)))) ∧
    s.cipherDecrypt x =
      passSecondary (s.cipherRotor 0) (passSecondary (s.cipherRotor 1) (passSecondary (s.cipherRotor 2)
        (passSecondary (s.cipherRotor 3) (passSecondary (s.cipherRotor 4) x)))) ∧
    s.controlPath x =
      passSecondary (s.controlRotor 0) (passSecondary (s.controlRotor 1) (passSecondary (s.controlRotor 2)
        (passSecondary (s.controlRotor 3) (passSecondary (s.controlRotor 4) x)))) ∧
    s.indexPath j =
      passPrimary (s.indexRotor 4) (passPrimary (s.indexRotor 3) (passPrimary (s.indexRotor 2)
        (passPrimary (s.indexRotor 1) (passPrimary (s.indexRotor 0) j))))

/-- substitute in one direction undoes substitute in the other at fixed positions. Derived: 42_cage_ops.md R140;
41_bank_ops.md R121. -/
def Obligations.SubstitutionIsUndoneByTheOtherDirection : Prop :=
  ∀ (s : State) (x : Contact),
    s.substitute .decrypt (s.substitute .encrypt x) = x ∧ s.substitute .encrypt (s.substitute .decrypt x) = x

/-- controlPath and indexPath are bijections. Derived: 41_bank_ops.md R122 (derived from R107); 41_bank_ops.md
R123 (derived from R107). -/
def Obligations.ControlAndIndexPathsAreBijections : Prop :=
  ∀ s : State, Function.Bijective s.controlPath ∧ Function.Bijective s.indexPath

/-- With identity cipher wiring substitute is the identity in both directions. Derived: 42_cage_ops.md R140
(corner cases); 90_conflicts.md C7. -/
def Obligations.IdentityWiringSubstitutesNothing : Prop :=
  ∀ (s : State) (d : Direction) (x : Contact),
    (∀ (j : Slot) (c : Contact), tableAt (s.config.cipher.get j).wiring.fwd c = c) → s.substitute d x = x

/-- The display of a bank is its five positions as letters or digits, slot 0 first. R124 and R12 name no
character code: the code points 65 and up for letters and 48 and up for digits are the choice of this model
(log 10, PRESUMED). Derived: 41_bank_ops.md R124; 00_scope.md R12. -/
def Obligations.DisplaysShowThePositions : Prop :=
  ∀ (s : State) (j : Slot),
    (s.display .cipher)[j.val]? = some (Char.ofNat (65 + (s.C.get j).val)) ∧
    (s.display .control)[j.val]? = some (Char.ofNat (65 + (s.K.get j).val)) ∧
    (s.display .index)[j.val]? = some (Char.ofNat (48 + (s.I.get j).val)) ∧
    ∀ bank, (s.display bank).length = 5

/-- The odometer: fast always, medium iff fast was home, slow iff medium was home. Stated: R141. -/
def Obligations.OdometerStepsFourCases : Prop :=
  ∀ (s : State) (j : Slot),
    (s.stepControlBank.K.get j).val =
      (if j = 2 ∨ (j = 3 ∧ s.K.get 2 = 14) ∨ (j = 1 ∧ s.K.get 3 = 14) then
        (if (s.config.control.get j).rev = true then ((s.K.get j).val + 1) % 26 else ((s.K.get j).val + 25) % 26)
      else (s.K.get j).val) ∧
    s.stepControlBank = { s with K := s.stepControlBank.K }

/-- The path of a driven contact: control bank, C2I, index bank, I2M. Stated: R142. -/
def Obligations.MagnetPathOfAContact : Prop :=
  ∀ (s : State) (v : Variant) (c : Contact),
    (∀ T : Vector (Option IndexContact) 26,
      (v = .csp889 ∧ T = s.config.cross.c2i889) ∨ (v = .csp2900 ∧ T = s.config.cross.c2i2900) →
      (tableAt T (s.controlPath c) = none → s.magnetOf v c = none) ∧
      ∀ i, tableAt T (s.controlPath c) = some i →
        s.magnetOf v c = some (tableAt s.config.cross.i2m (s.indexPath i)))

/-- A magnet is energized iff some driven contact reaches it; at most 4 in CSP-889. Derived: 42_cage_ops.md
R143. -/
def Obligations.EnergizedExactlyTheReachedMagnets : Prop :=
  ∀ s : State,
    (∀ (v : Variant) (m : Slot), (s.energized v).get m = true ↔
      ∃ c ∈ CrossTables.drive s.config.cross v, s.magnetOf v c = some m) ∧
    (CrossTables.drive s.config.cross .csp889).length = 4 ∧ (CrossTables.drive s.config.cross .csp2900).length = 6 ∧
    (s.energized .csp889).toList.count true ≤ 4

/-- stepCipherBank: energized rotors step once in the direction of the variant; lockup resets with slot 0 or 4.
Stated: R144; R146; R149. -/
def Obligations.CipherBankStepsEnergizedRotorsOnce : Prop :=
  ∀ (s : State) (v : Variant), ∃ move : Slots Bool,
    (∀ m : Slot, move.get m = true ↔ ∃ c ∈ CrossTables.drive s.config.cross v, s.magnetOf v c = some m) ∧
    s.stepCipherBank v =
      { s with
        C := Slots.tabulate fun j =>
          if move.get j = true then
            (s.cipherRotor j).stepped (decide (v = .csp889 ∨ j = 0 ∨ j = 2 ∨ j = 4))
          else s.C.get j
        lockupCount := if move.get 0 = true ∨ move.get 4 = true then 0 else s.lockupCount }

/-- Which rotors a letter key moves does not depend on the letter, the direction or the cipher positions.
Derived: 42_cage_ops.md R146; 44_key_events.md R206. -/
def Obligations.SteppingIgnoresKeyAndDirection : Prop :=
  ∀ (i i' : Instr) (x x' : Contact) (v : Variant) (s t : State),
    i.key? = some (.letter x) → i'.key? = some (.letter x') → KeyLive s .encrypt .operate v → KeyLive t .decrypt .operate v →
    s.K = t.K → s.I = t.I → s.config = t.config →
    ∃ s' t', exec i s = .next s' ∧ exec i' t = .next t' ∧ s'.K = t'.K ∧
      ∀ j : Slot, s'.C.get j ≠ s.C.get j ↔ t'.C.get j ≠ t.C.get j

/-- NOP writes no state and its output is empty. NOP is the spec's own addition (decision D2). Derived:
43_switch_events.md R170 (decision D2). -/
def Obligations.NopChangesNothing : Prop :=
  ∀ s : State, exec .nop s = .next { s with out := [] }

/-- SETOP: the two switch writes, the counter resets and the padding, for each of the five positions. Stated:
R171. -/
def Obligations.SetOperatingSwitchEffects : Prop :=
  ∀ s : State,
    exec .setopOff s = .next { s with
      lockupCount := 0, groupCount := 0, out := []
      previousOperatingSwitch := s.operatingSwitch, operatingSwitch := .off } ∧
    exec .setopPlain s = .next { s with
      lockupCount := 0, out := []
      previousOperatingSwitch := s.operatingSwitch, operatingSwitch := .plaintext } ∧
    exec .setopReset s = .next { s with
      lockupCount := 0
      groupCount := if s.operatingSwitch = .plaintext ∨ s.operatingSwitch = .encrypt then 0 else s.groupCount
      out := if s.operatingSwitch = .plaintext ∨ s.operatingSwitch = .encrypt then
          List.replicate ((5 - s.keystrokeCount % 5) % 5) .space
        else []
      previousOperatingSwitch := s.operatingSwitch, operatingSwitch := .reset } ∧
    exec .setopEnc s = .next { s with
      out := [], previousOperatingSwitch := s.operatingSwitch, operatingSwitch := .encrypt } ∧
    exec .setopDec s = .next { s with
      out := [], previousOperatingSwitch := s.operatingSwitch, operatingSwitch := .decrypt }

/-- SETZ writes zeroizeSwitch only. Stated: R172. -/
def Obligations.SetZeroizeSwitchEffects : Prop :=
  ∀ s : State,
    exec .setzZeroize s = .next { s with zeroizeSwitch := .zeroize, out := [] } ∧
    exec .setzNeutral s = .next { s with zeroizeSwitch := .neutral, out := [] } ∧
    exec .setzOperate s = .next { s with zeroizeSwitch := .operate, out := [] }

/-- SETVAR writes machineVariant only. Stated: R173. -/
def Obligations.SetVariantSwitchEffects : Prop :=
  ∀ s : State,
    exec .setvarCsp889 s = .next { s with machineVariant := .csp889, out := [] } ∧
    exec .setvarCsp2900 s = .next { s with machineVariant := .csp2900, out := [] } ∧
    exec .setvarNeutral s = .next { s with machineVariant := .neutral, out := [] }

/-- ZEROIZE sets the ten cipher and control positions to 14 and nothing else. Stated: R174; R147. -/
def Obligations.ZeroizeSetsTenPositionsHome : Prop :=
  ∀ s : State, exec .zeroize s = .next { s with C := ⟨14, 14, 14, 14, 14⟩, K := ⟨14, 14, 14, 14, 14⟩, out := [] }

/-- SETPOS writes the five positions of its bank, out-of-alphabet codes sanitised slot by slot. The spec gives
codes 0..31 only (R77): what is said here of codes of 32 and more is the choice of this model (log 15,
DESIGN CHOICE). Derived: 43_switch_events.md R175; 41_bank_ops.md R125; 30_encoding.md R77 (codes 0..31). -/
def Obligations.SetPositionsSanitisePerSlot : Prop :=
  ∀ (a b c d e : Nat) (s : State),
    (∃ t, exec (.setposCipher a b c d e) s = .next t ∧ t = { s with C := t.C, out := [] } ∧
      ∀ j : Slot, (t.C.get j).val =
        if (⟨a, b, c, d, e⟩ : Slots Nat).get j < 26 then (⟨a, b, c, d, e⟩ : Slots Nat).get j else 14) ∧
    (∃ t, exec (.setposControl a b c d e) s = .next t ∧ t = { s with K := t.K, out := [] } ∧
      ∀ j : Slot, (t.K.get j).val =
        if (⟨a, b, c, d, e⟩ : Slots Nat).get j < 26 then (⟨a, b, c, d, e⟩ : Slots Nat).get j else 14) ∧
    (∃ t, exec (.setposIndex a b c d e) s = .next t ∧ t = { s with I := t.I, out := [] } ∧
      ∀ j : Slot, (t.I.get j).val =
        if (⟨a, b, c, d, e⟩ : Slots Nat).get j < 10 then (⟨a, b, c, d, e⟩ : Slots Nat).get j else 0)

/-- A gated key, of any KEY row, changes nothing and emits nothing. Derived: 44_key_events.md R190 (gating
rule); 60_exceptions.md R251 (X4 to X7). -/
def Obligations.GatedKeysAreNoOps : Prop :=
  ∀ (i : Instr) (k : Key) (s : State), i.key? = some k →
    s.operatingSwitch = .off ∨ s.machineVariant = .neutral ∨ s.zeroizeSwitch = .neutral ∨ 21 ≤ s.lockupCount →
    exec i s = .next { s with out := [] }

/-- KEY RPT is a no-op in every switch position. Stated: R191. -/
def Obligations.RptKeyIsAlwaysIgnored : Prop :=
  ∀ s : State, exec .keyRpt s = .next { s with out := [] }

/-- With the zeroize switch at Zeroize every key but Blank is a no-op. Stated: R192. -/
def Obligations.ZeroizeModeIgnoresOtherKeys : Prop :=
  ∀ (i : Instr) (k : Key) (s : State), i.key? = some k → k ≠ .blank → s.zeroizeSwitch = .zeroize →
    exec i s = .next { s with out := [] }

/-- The Zeroize-mode Blank key in Reset, Encrypt, Decrypt steps each non-home cipher and control rotor once.
Stated: R193. -/
def Obligations.ZeroizeBlankStepsRotorsTowardHome : Prop :=
  ∀ (op : OperatingSwitch) (v : Variant) (s : State), op = .reset ∨ op = .encrypt ∨ op = .decrypt →
    KeyLive s op .zeroize v →
    exec .keyBlank s = .next { s with
      C := Slots.tabulate fun j => if s.C.get j = 14 then 14
        else (s.cipherRotor j).stepped (decide (v = .csp889 ∨ j = 0 ∨ j = 2 ∨ j = 4))
      K := Slots.tabulate fun j => if s.K.get j = 14 then 14 else (s.controlRotor j).rotCW
      keystrokeCount := s.keystrokeCount + 1
      out := if op = .reset then [] else [.space] }

/-- The Zeroize-mode Blank key in Plaintext counts and emits a space; no rotor moves. Stated: R194. -/
def Obligations.ZeroizeBlankPlaintextEmitsSpace : Prop :=
  ∀ (v : Variant) (s : State), KeyLive s .plaintext .zeroize v →
    exec .keyBlank s = .next { s with keystrokeCount := s.keystrokeCount + 1, out := [.space] }

/-- A Reset-mode digit 1..5 steps the cipher bank, then control slot digit - 1 clockwise. Stated: R195. -/
def Obligations.ResetDigitStepsCipherBankThenControlRotor : Prop :=
  ∀ (i : Instr) (d : IndexContact) (j : Slot) (v : Variant) (s : State),
    i.key? = some (.digit d) → d.val = j.val + 1 → KeyLive s .reset .operate v →
    exec i s = .next { s with
      C := (s.stepCipherBank v).C
      lockupCount := (s.stepCipherBank v).lockupCount
      K := s.K.set j (s.controlRotor j).rotCW
      keystrokeCount := s.keystrokeCount + 1
      out := [] }

/-- The Reset-mode Blank key steps the cipher bank only. Stated: R196. -/
def Obligations.ResetBlankStepsCipherBankOnly : Prop :=
  ∀ (v : Variant) (s : State), KeyLive s .reset .operate v →
    exec .keyBlank s = .next { s with
      C := (s.stepCipherBank v).C
      lockupCount := (s.stepCipherBank v).lockupCount
      keystrokeCount := s.keystrokeCount + 1
      out := [] }

/-- In Reset every key but the digits 1..5 and Blank is a no-op. Stated: R197. -/
def Obligations.ResetModeIgnoresOtherKeys : Prop :=
  ∀ (i : Instr) (k : Key) (s : State), i.key? = some k →
    (∃ l, k = .letter l) ∨ (∃ d, k = .digit d ∧ (d.val = 0 ∨ 6 ≤ d.val)) ∨ k = .dash ∨ k = .spaceBar →
    s.operatingSwitch = .reset → s.zeroizeSwitch = .operate →
    exec i s = .next { s with out := [] }

/-- In Plaintext a letter, digit or dash key is echoed and counted. Stated: R198. -/
def Obligations.PlaintextEchoesLettersDigitsDash : Prop :=
  ∀ (i : Instr) (k : Key) (ch : OutChar) (v : Variant) (s : State), i.key? = some k →
    (∃ l, k = .letter l ∧ ch = .letter l) ∨ (∃ d, k = .digit d ∧ ch = .digit d) ∨ (k = .dash ∧ ch = .dash) →
    KeyLive s .plaintext .operate v →
    exec i s = .next { s with keystrokeCount := s.keystrokeCount + 1, out := [ch] }

/-- In Plaintext Blank and the Space-Bar emit a space. Stated: R199. -/
def Obligations.PlaintextBlankAndSpaceEmitSpace : Prop :=
  ∀ (i : Instr) (v : Variant) (s : State), i = .keyBlank ∨ i = .keySpace → KeyLive s .plaintext .operate v →
    exec i s = .next { s with keystrokeCount := s.keystrokeCount + 1, out := [.space] }

/-- In Encrypt a digit or dash key is a no-op. Stated: R200. -/
def Obligations.EncryptIgnoresDigitsAndDash : Prop :=
  ∀ (i : Instr) (k : Key) (s : State), i.key? = some k → (∃ d, k = .digit d) ∨ k = .dash →
    s.operatingSwitch = .encrypt → s.zeroizeSwitch = .operate →
    exec i s = .next { s with out := [] }

/-- The Encrypt Blank key steps both banks, emits one space, counts group and keystroke but not lockup. Stated:
R202. -/
def Obligations.EncryptBlankCyclesAndEmitsSpace : Prop :=
  ∀ (v : Variant) (s : State), KeyLive s .encrypt .operate v →
    exec .keyBlank s = .next { s with
      C := (s.stepCipherBank v).C
      K := s.stepControlBank.K
      lockupCount := (s.stepCipherBank v).lockupCount
      keystrokeCount := s.keystrokeCount + 1
      groupCount := s.groupCount + 1
      out := [.space] }

/-- An Encrypt letter or Space-Bar: substituted at the old positions, then both banks step, then the counters.
Stated: R203. -/
def Obligations.EncryptLettersSubstituteThenStep : Prop :=
  ∀ (i : Instr) (k : Key) (x : Contact) (v : Variant) (s : State), i.key? = some k →
    (∃ l, k = .letter l ∧ x = if l = 25 then 23 else l) ∨ (k = .spaceBar ∧ x = 25) →
    KeyLive s .encrypt .operate v →
    exec i s = .next { s with
      C := (s.stepCipherBank v).C
      K := s.stepControlBank.K
      lockupCount := (s.stepCipherBank v).lockupCount + 1
      keystrokeCount := s.keystrokeCount + 1
      groupCount := s.groupCount + 1
      out := (if 0 < s.groupCount ∧ s.groupCount % 5 = 0 then [.space] else []) ++ [.letter (s.cipherEncrypt x)] }

/-- In Decrypt the Space-Bar, the digits and the dash are no-ops. Stated: R204; R207. -/
def Obligations.DecryptIgnoresSpaceDigitsDash : Prop :=
  ∀ (i : Instr) (k : Key) (s : State), i.key? = some k → k = .spaceBar ∨ (∃ d, k = .digit d) ∨ k = .dash →
    s.operatingSwitch = .decrypt → s.zeroizeSwitch = .operate →
    exec i s = .next { s with out := [] }

/-- The Decrypt Blank key steps both banks, emits one space, counts keystroke and lockup. Stated: R205. -/
def Obligations.DecryptBlankCyclesAndEmitsSpace : Prop :=
  ∀ (v : Variant) (s : State), KeyLive s .decrypt .operate v →
    exec .keyBlank s = .next { s with
      C := (s.stepCipherBank v).C
      K := s.stepControlBank.K
      lockupCount := (s.stepCipherBank v).lockupCount + 1
      keystrokeCount := s.keystrokeCount + 1
      out := [.space] }

/-- A Decrypt letter: substituted back at the old positions, Z shown as a space, both banks step. Stated: R206. -/
def Obligations.DecryptLettersSubstituteThenStep : Prop :=
  ∀ (i : Instr) (x : Contact) (v : Variant) (s : State), i.key? = some (.letter x) →
    KeyLive s .decrypt .operate v →
    exec i s = .next { s with
      C := (s.stepCipherBank v).C
      K := s.stepControlBank.K
      lockupCount := (s.stepCipherBank v).lockupCount + 1
      keystrokeCount := s.keystrokeCount + 1
      out := [if s.cipherDecrypt x = 25 then .space else .letter (s.cipherDecrypt x)] }

/-- Every step keeps the counter invariant. Derived: 10_state.md R25, R26, R27; 43_switch_events.md R171 (corner
cases 3 and 4); 45_host_interface.md R230 (out_len <= 4); 60_exceptions.md R260. -/
def Obligations.StepKeepsCountersOk : Prop :=
  ∀ s t : State, CountersOk s → step s = .next t → CountersOk t

/-- The counter invariant holds after reset with the values of R36, under every configuration. Derived:
10_state.md R36 (decisions D13 to D15); 60_exceptions.md R260. -/
def Obligations.ResetStateHasCountersOk : Prop :=
  (∀ cfg : Configuration, CountersOk (State.resetWith cfg)) ∧ CountersOk State.reset

/-- Asserting reset with checked parameters configures the block and gives every register its reset value, by
default that of R36. The defaults are decisions of the spec (log 6); that the words still to be presented
stay is the choice of this model (log 12). Derived: 70_reset_and_hazards.md R280; 10_state.md R36 (decisions
D13 to D15); 00_scope.md R8 (the reset state is a model argument). -/
def Obligations.ResetLoadsTheDecidedValues : Prop :=
  ∀ (p : RawParameters) (q : Parameters) (s : State), loadParameters p = .ok q →
    (∀ values : ResetValues, ∃ t, assertReset p s values = .next t ∧
      t.C = values.C ∧ t.K = values.K ∧ t.I = values.I ∧
      t.lockupCount = values.lockupCount ∧ t.keystrokeCount = values.keystrokeCount ∧ t.groupCount = values.groupCount ∧
      t.operatingSwitch = values.operatingSwitch ∧ t.previousOperatingSwitch = values.previousOperatingSwitch ∧
      t.zeroizeSwitch = values.zeroizeSwitch ∧ t.machineVariant = values.machineVariant ∧
      t.config = configure q ∧ t.out = [] ∧ t.events = s.events) ∧
    ∃ t, assertReset p s = .next t ∧
      (∀ j : Slot, (t.C.get j).val = 14 ∧ (t.K.get j).val = 14 ∧ (t.I.get j).val = 0) ∧
      t.lockupCount = 0 ∧ t.keystrokeCount = 0 ∧ t.groupCount = 0 ∧
      t.operatingSwitch = .off ∧ t.previousOperatingSwitch = .off ∧
      t.zeroizeSwitch = .neutral ∧ t.machineVariant = .neutral ∧
      t.config = configure q ∧ t.out = [] ∧ t.events = s.events

/-- configure gives each slot its table, entry 0 for an index out of range, and its orientation. Derived:
45_host_interface.md R231 (the configuration registers); 00_scope.md R7. -/
def Obligations.ConfigureFallsBackToEntryZero : Prop :=
  ∀ (p : Parameters) (j : Slot),
    SlotConfigured p.cipherPool (p.cipherOrder.get j) ((configure p).cipher.get j) ∧
    SlotConfigured p.controlPool (p.controlOrder.get j) ((configure p).control.get j) ∧
    SlotConfigured p.indexPool (p.indexOrder.get j) ((configure p).index.get j) ∧
    (∀ c : Contact, tableAt ((configure p).cipher.get j).wiring.bwd (tableAt ((configure p).cipher.get j).wiring.fwd c) = c ∧
      tableAt ((configure p).control.get j).wiring.bwd (tableAt ((configure p).control.get j).wiring.fwd c) = c) ∧
    ∀ c : IndexContact, tableAt ((configure p).index.get j).wiring.bwd (tableAt ((configure p).index.get j).wiring.fwd c) = c

/-- A configuration string of 10 characters is read slot by slot; another length takes the default. The two else
branches of R232 are marked there as not in the source (decision D26). The code points 48..57 of the digits
are the choice of this model (log 10, PRESUMED). Derived: 45_host_interface.md R232 (decision D26);
92_eei_decisions.md D26. -/
def Obligations.OrderStringsParseOrDefault : Prop :=
  (∀ dflt : RotorOrder, parseOrder dflt none = dflt) ∧
  (∀ (dflt : RotorOrder) (t : List Char), t.length ≠ 10 → parseOrder dflt (some t) = dflt) ∧
  (∀ (dflt : RotorOrder) (t : List Char) (j : Slot) (d o : Char), t.length = 10 →
    t[2 * j.val]? = some d → t[2 * j.val + 1]? = some o →
    ((parseOrder dflt (some t)).get j).wiringIndex =
      (if 48 ≤ d.toNat ∧ d.toNat ≤ 57 then ((d.toNat - 48 : Nat) : Int) else 0) ∧
    (((parseOrder dflt (some t)).get j).orientation = .reversed ↔ o = 'R')) ∧
  (∀ (p : Parameters) (a b c : Option (List Char)),
    (withOrderStrings p a b c).cipherOrder = parseOrder defaultCipherOrder a ∧
    (withOrderStrings p a b c).controlOrder = parseOrder defaultControlOrder b ∧
    (withOrderStrings p a b c).indexOrder = parseOrder defaultIndexOrder c) ∧
  parseTen "0N1N2N3N4N".toList = some defaultCipherOrder ∧
  parseTen "5N6N7N8N9N".toList = some defaultControlOrder ∧
  parseTen "0N1N2N3N4N".toList = some defaultIndexOrder

/-- A position text of any length sets its bank slot by slot, missing or bad symbols to home. The code points
that textLetter and textDigit read as letters (65..90) and digits (48..57) are the choice of this model (log
10, PRESUMED). Derived: 45_host_interface.md R233; 41_bank_ops.md R125. -/
def Obligations.TextOverrideSanitisesPerSymbol : Prop :=
  ∀ (text : List Char) (s : State),
    (∃ t, exec (setPositionsText .cipher text) s = .next t ∧ t = { s with C := t.C, out := [] } ∧
      ∀ j : Slot, (t.C.get j).val = textLetter text j) ∧
    (∃ t, exec (setPositionsText .control text) s = .next t ∧ t = { s with K := t.K, out := [] } ∧
      ∀ j : Slot, (t.K.get j).val = textLetter text j) ∧
    (∃ t, exec (setPositionsText .index text) s = .next t ∧ t = { s with I := t.I, out := [] } ∧
      ∀ j : Slot, (t.I.get j).val = textDigit text j)

/-- A wiring table loads exactly when it is a permutation, and loads as itself. Derived: 00_scope.md R7;
93_implementation_defined.md U9. -/
def Obligations.LoadingAcceptsExactlyPermutations : Prop :=
  ∀ (n : Nat) (T : Vector (Fin n) n),
    (Function.Injective (tableAt T) → ∃ w, loadWiring T = .ok w ∧ w.fwd = T) ∧
    (¬ Function.Injective (tableAt T) → loadWiring T = .error .nonBijectiveWiring)

/-- The only exit from lockup is SETOP to Off, Plaintext or Reset. Derived: 60_exceptions.md R255;
43_switch_events.md R171 (a). -/
def Obligations.LockedUntilSetopOffPlainReset : Prop :=
  ∀ s t : State, 21 ≤ s.lockupCount → step s = .next t →
    (t.lockupCount = s.lockupCount ∧ t.keystrokeCount = s.keystrokeCount) ∨
    ∃ w rest, s.events = w :: rest ∧
      (decode w = .ok .setopOff ∨ decode w = .ok .setopPlain ∨ decode w = .ok .setopReset) ∧ t.lockupCount = 0

/-- An Index position changes only by SETPOS INDEX. Derived: 10_state.md R22. -/
def Obligations.IndexMovesOnlyBySetposIndex : Prop :=
  ∀ s t : State, step s = .next t → t.I ≠ s.I →
    ∃ w rest a b c d e, s.events = w :: rest ∧ decode w = .ok (.setposIndex a b c d e)

/-- No step writes the configuration, and every step takes exactly the event presented. Derived: 20_memory.md
R59; 10_state.md R24. -/
def Obligations.ConfigurationIsReadOnly : Prop :=
  ∀ s t : State, step s = .next t → t.config = s.config ∧ t.events = s.events.tail

/-- A switch register changes only by its own event. Derived: 60_exceptions.md R257; 10_state.md R28, R29, R30,
R31. -/
def Obligations.SwitchesMoveOnlyBySwitchEvents : Prop :=
  ∀ (s t : State), step s = .next t →
    (t.operatingSwitch ≠ s.operatingSwitch ∨ t.previousOperatingSwitch ≠ s.previousOperatingSwitch →
      ∃ w rest i, s.events = w :: rest ∧ decode w = .ok i ∧ i ∈ setopInstrs) ∧
    (t.zeroizeSwitch ≠ s.zeroizeSwitch →
      ∃ w rest i, s.events = w :: rest ∧ decode w = .ok i ∧ i ∈ setzInstrs) ∧
    (t.machineVariant ≠ s.machineVariant →
      ∃ w rest i, s.events = w :: rest ∧ decode w = .ok i ∧ i ∈ setvarInstrs)

/-- keystrokeCount never decreases and grows by one, by key events only. Derived: 10_state.md R26. -/
def Obligations.KeystrokeCountGrowsByKeysOnly : Prop :=
  ∀ s t : State, step s = .next t →
    t.keystrokeCount = s.keystrokeCount ∨
    (t.keystrokeCount = s.keystrokeCount + 1 ∧
      ∃ w rest i k, s.events = w :: rest ∧ decode w = .ok i ∧ i.key? = some k)

/-- Twenty-five Zeroize-mode Blank keys bring every cipher and control rotor home. Derived: 44_key_events.md
R193 (derived from R101); 42_cage_ops.md R147. -/
def Obligations.TwentyFiveBlankPressesZeroize : Prop :=
  ∀ (op : OperatingSwitch) (v : Variant) (s : State), op = .reset ∨ op = .encrypt ∨ op = .decrypt →
    KeyLive s op .zeroize v →
    ∃ t stream, runWords (List.replicate 25 (0x10000025 : Word)) s = some (t, stream) ∧
      (∀ j : Slot, t.C.get j = 14 ∧ t.K.get j = 14) ∧ t.keystrokeCount = s.keystrokeCount + 25

/-- A decrypting block in step with the encrypting one recovers the typed text. Derived: 44_key_events.md R206;
70_reset_and_hazards.md R282. -/
def Obligations.DecryptionRecoversTheTypedText : Prop :=
  ∀ (ks : List Key) (v : Variant) (s t : State), (∀ k ∈ ks, isTrafficKey k = true) →
    KeyLive s .encrypt .operate v → KeyLive t .decrypt .operate v → SameTraffic s t →
    ∃ s' cipherText t' received,
      runWords (keyWords ks) s = some (s', cipherText) ∧
      runWords (keyWords (letterKeys cipherText)) t = some (t', received) ∧
      received = (ks.take (letterKeys cipherText).length).map receivedAs ∧
      (s'.lockupCount < 21 → (letterKeys cipherText).length = ks.length) ∧
      SameTraffic s' t'
end

