-- ==== Sys2Proof/Laws/Decode.lean ====
section
/-! SUPPORT. Event-word fields as arithmetic on the word's number. -/

namespace Sys2Proof

/-- A field of a word is a quotient and a remainder of its number (R9). -/
theorem evBits_eq (w : Word) (hi lo : Nat) : evBits w hi lo = w.toNat / 2 ^ lo % 2 ^ (hi + 1 - lo) := by
  simp [evBits, BitVec.extractLsb'_toNat, Nat.shiftRight_eq_div_pow]

theorem encodeSetpos_toNat (bank a b c d e : Nat) :
    (encodeSetpos bank a b c d e).toNat =
      (6 * 2 ^ 28 + bank * 2 ^ 26 + e * 2 ^ 20 + d * 2 ^ 15 + c * 2 ^ 10 + b * 2 ^ 5 + a) % 2 ^ 32 := by
  simp [encodeSetpos, BitVec.toNat_ofNat]

/-- A code read from a list of rows is an entry of the list (R79). -/
theorem decodeCode_eq_ok_iff (rows : List Instr) (code : Nat) (why : Reserved) (i : Instr) :
    decodeCode rows code why = .ok i ↔ rows[code]? = some i := by
  unfold decodeCode
  split <;> simp_all

/-- A code past the end of the list is reserved (R79). -/
theorem decodeCode_of_length_le {rows : List Instr} {code : Nat} (why : Reserved) (h : rows.length ≤ code) :
    decodeCode rows code why = .error why := by
  simp [decodeCode, List.getElem?_eq_none h]

end Sys2Proof
end

