-- ==== Sys2Proof/Laws/Flags.lean ====
section
/-! SUPPORT. The derived conditions and the operand forms as propositions. -/

namespace Sys2Proof.Machine

/-- `isLocked = (lockupCount >= 21)` (R32). -/
@[simp] theorem isLocked_iff (s : State) : s.isLocked = true ↔ 21 ≤ s.lockupCount := decide_eq_true_iff

/-- At home means position 14 (R23). -/
@[simp] theorem atHome_iff (pos : Contact) : atHome pos = true ↔ pos = 14 := decide_eq_true_iff

/-- The grouping test (R203). -/
@[simp] theorem atGroupBoundary_iff (s : State) :
    s.atGroupBoundary = true ↔ 0 < s.groupCount ∧ s.groupCount % 5 = 0 := by
  simp [State.atGroupBoundary]

/-- A sanitised symbol as a number (R125). -/
theorem sanitize_val (n : Nat) (home : Fin n) (sym : Nat) :
    (sanitize n home sym).val = if sym < n then sym else home.val := by
  unfold sanitize
  split <;> simp_all

/-- The digits that step a control rotor in Reset, and the slot they step (R195). -/
theorem resetDigitSlot_eq_some_iff (d : IndexContact) (i : Slot) :
    resetDigitSlot d = some i ↔ d.val = i.val + 1 := by
  revert d i
  decide

/-- The digits that step no control rotor in Reset (R197). -/
theorem resetDigitSlot_eq_none_iff (d : IndexContact) : resetDigitSlot d = none ↔ d.val = 0 ∨ 6 ≤ d.val := by
  revert d
  decide

end Sys2Proof.Machine
end

