-- ==== Sys2Proof/Laws/Slots.lean ====
section
/-! SUPPORT. Reading a slot after a write, and banks as their five slots. -/

namespace Sys2Proof

@[simp] theorem Slots.get_tabulate (f : Slot → α) (i : Slot) : (Slots.tabulate f).get i = f i := by
  fin_cases i <;> rfl

@[simp] theorem Slots.get_fill (v : α) (i : Slot) : (Slots.fill v).get i = v := by
  fin_cases i <;> rfl

@[simp] theorem Slots.get_set_same (b : Slots α) (i : Slot) (v : α) : (b.set i v).get i = v := by
  fin_cases i <;> rfl

theorem Slots.get_set (b : Slots α) (i j : Slot) (v : α) :
    (b.set i v).get j = if j = i then v else b.get j := by
  fin_cases i <;> fin_cases j <;> rfl

theorem Slots.get_set_of_ne (b : Slots α) {i j : Slot} (v : α) (h : j ≠ i) : (b.set i v).get j = b.get j := by
  simp [Slots.get_set, h]

/-- Banks with the same five slots are equal. -/
theorem Slots.ext_get {a b : Slots α} (h : ∀ i, a.get i = b.get i) : a = b := by
  cases a; cases b
  have h0 := h 0; have h1 := h 1; have h2 := h 2; have h3 := h 3; have h4 := h 4
  simp only [Slots.get] at h0 h1 h2 h3 h4
  simp [h0, h1, h2, h3, h4]

theorem Slots.tabulate_get (b : Slots α) : Slots.tabulate b.get = b :=
  Slots.ext_get fun i => Slots.get_tabulate _ i

end Sys2Proof
end

