-- ==== Sys2Proof/Laws/State.lean ====
section
/-! SUPPORT. What each update of the state writes and what it leaves: one lemma for each field of each update. -/

namespace Sys2Proof.Machine

@[simp] theorem State.beginEvent_C (s : State) : (s.beginEvent).C = s.C := rfl
@[simp] theorem State.beginEvent_K (s : State) : (s.beginEvent).K = s.K := rfl
@[simp] theorem State.beginEvent_I (s : State) : (s.beginEvent).I = s.I := rfl
@[simp] theorem State.beginEvent_lockupCount (s : State) : (s.beginEvent).lockupCount = s.lockupCount := rfl
@[simp] theorem State.beginEvent_keystrokeCount (s : State) : (s.beginEvent).keystrokeCount = s.keystrokeCount := rfl
@[simp] theorem State.beginEvent_groupCount (s : State) : (s.beginEvent).groupCount = s.groupCount := rfl
@[simp] theorem State.beginEvent_operatingSwitch (s : State) : (s.beginEvent).operatingSwitch = s.operatingSwitch := rfl
@[simp] theorem State.beginEvent_previousOperatingSwitch (s : State) : (s.beginEvent).previousOperatingSwitch = s.previousOperatingSwitch := rfl
@[simp] theorem State.beginEvent_zeroizeSwitch (s : State) : (s.beginEvent).zeroizeSwitch = s.zeroizeSwitch := rfl
@[simp] theorem State.beginEvent_machineVariant (s : State) : (s.beginEvent).machineVariant = s.machineVariant := rfl
@[simp] theorem State.beginEvent_config (s : State) : (s.beginEvent).config = s.config := rfl
@[simp] theorem State.beginEvent_out (s : State) : (s.beginEvent).out = [] := rfl
@[simp] theorem State.beginEvent_events (s : State) : (s.beginEvent).events = s.events := rfl

@[simp] theorem State.emit_C (s : State) (ch : OutChar) : (s.emit ch).C = s.C := rfl
@[simp] theorem State.emit_K (s : State) (ch : OutChar) : (s.emit ch).K = s.K := rfl
@[simp] theorem State.emit_I (s : State) (ch : OutChar) : (s.emit ch).I = s.I := rfl
@[simp] theorem State.emit_lockupCount (s : State) (ch : OutChar) : (s.emit ch).lockupCount = s.lockupCount := rfl
@[simp] theorem State.emit_keystrokeCount (s : State) (ch : OutChar) : (s.emit ch).keystrokeCount = s.keystrokeCount := rfl
@[simp] theorem State.emit_groupCount (s : State) (ch : OutChar) : (s.emit ch).groupCount = s.groupCount := rfl
@[simp] theorem State.emit_operatingSwitch (s : State) (ch : OutChar) : (s.emit ch).operatingSwitch = s.operatingSwitch := rfl
@[simp] theorem State.emit_previousOperatingSwitch (s : State) (ch : OutChar) : (s.emit ch).previousOperatingSwitch = s.previousOperatingSwitch := rfl
@[simp] theorem State.emit_zeroizeSwitch (s : State) (ch : OutChar) : (s.emit ch).zeroizeSwitch = s.zeroizeSwitch := rfl
@[simp] theorem State.emit_machineVariant (s : State) (ch : OutChar) : (s.emit ch).machineVariant = s.machineVariant := rfl
@[simp] theorem State.emit_config (s : State) (ch : OutChar) : (s.emit ch).config = s.config := rfl
@[simp] theorem State.emit_out (s : State) (ch : OutChar) : (s.emit ch).out = s.out ++ [ch] := rfl
@[simp] theorem State.emit_events (s : State) (ch : OutChar) : (s.emit ch).events = s.events := rfl

@[simp] theorem State.emitN_C (s : State) (ch : OutChar) (n : Nat) : (s.emitN ch n).C = s.C := rfl
@[simp] theorem State.emitN_K (s : State) (ch : OutChar) (n : Nat) : (s.emitN ch n).K = s.K := rfl
@[simp] theorem State.emitN_I (s : State) (ch : OutChar) (n : Nat) : (s.emitN ch n).I = s.I := rfl
@[simp] theorem State.emitN_lockupCount (s : State) (ch : OutChar) (n : Nat) : (s.emitN ch n).lockupCount = s.lockupCount := rfl
@[simp] theorem State.emitN_keystrokeCount (s : State) (ch : OutChar) (n : Nat) : (s.emitN ch n).keystrokeCount = s.keystrokeCount := rfl
@[simp] theorem State.emitN_groupCount (s : State) (ch : OutChar) (n : Nat) : (s.emitN ch n).groupCount = s.groupCount := rfl
@[simp] theorem State.emitN_operatingSwitch (s : State) (ch : OutChar) (n : Nat) : (s.emitN ch n).operatingSwitch = s.operatingSwitch := rfl
@[simp] theorem State.emitN_previousOperatingSwitch (s : State) (ch : OutChar) (n : Nat) : (s.emitN ch n).previousOperatingSwitch = s.previousOperatingSwitch := rfl
@[simp] theorem State.emitN_zeroizeSwitch (s : State) (ch : OutChar) (n : Nat) : (s.emitN ch n).zeroizeSwitch = s.zeroizeSwitch := rfl
@[simp] theorem State.emitN_machineVariant (s : State) (ch : OutChar) (n : Nat) : (s.emitN ch n).machineVariant = s.machineVariant := rfl
@[simp] theorem State.emitN_config (s : State) (ch : OutChar) (n : Nat) : (s.emitN ch n).config = s.config := rfl
@[simp] theorem State.emitN_out (s : State) (ch : OutChar) (n : Nat) : (s.emitN ch n).out = s.out ++ List.replicate n ch := rfl
@[simp] theorem State.emitN_events (s : State) (ch : OutChar) (n : Nat) : (s.emitN ch n).events = s.events := rfl

@[simp] theorem State.countKeystroke_C (s : State) : (s.countKeystroke).C = s.C := rfl
@[simp] theorem State.countKeystroke_K (s : State) : (s.countKeystroke).K = s.K := rfl
@[simp] theorem State.countKeystroke_I (s : State) : (s.countKeystroke).I = s.I := rfl
@[simp] theorem State.countKeystroke_lockupCount (s : State) : (s.countKeystroke).lockupCount = s.lockupCount := rfl
@[simp] theorem State.countKeystroke_keystrokeCount (s : State) : (s.countKeystroke).keystrokeCount = s.keystrokeCount + 1 := rfl
@[simp] theorem State.countKeystroke_groupCount (s : State) : (s.countKeystroke).groupCount = s.groupCount := rfl
@[simp] theorem State.countKeystroke_operatingSwitch (s : State) : (s.countKeystroke).operatingSwitch = s.operatingSwitch := rfl
@[simp] theorem State.countKeystroke_previousOperatingSwitch (s : State) : (s.countKeystroke).previousOperatingSwitch = s.previousOperatingSwitch := rfl
@[simp] theorem State.countKeystroke_zeroizeSwitch (s : State) : (s.countKeystroke).zeroizeSwitch = s.zeroizeSwitch := rfl
@[simp] theorem State.countKeystroke_machineVariant (s : State) : (s.countKeystroke).machineVariant = s.machineVariant := rfl
@[simp] theorem State.countKeystroke_config (s : State) : (s.countKeystroke).config = s.config := rfl
@[simp] theorem State.countKeystroke_out (s : State) : (s.countKeystroke).out = s.out := rfl
@[simp] theorem State.countKeystroke_events (s : State) : (s.countKeystroke).events = s.events := rfl

@[simp] theorem State.countGroup_C (s : State) : (s.countGroup).C = s.C := rfl
@[simp] theorem State.countGroup_K (s : State) : (s.countGroup).K = s.K := rfl
@[simp] theorem State.countGroup_I (s : State) : (s.countGroup).I = s.I := rfl
@[simp] theorem State.countGroup_lockupCount (s : State) : (s.countGroup).lockupCount = s.lockupCount := rfl
@[simp] theorem State.countGroup_keystrokeCount (s : State) : (s.countGroup).keystrokeCount = s.keystrokeCount := rfl
@[simp] theorem State.countGroup_groupCount (s : State) : (s.countGroup).groupCount = s.groupCount + 1 := rfl
@[simp] theorem State.countGroup_operatingSwitch (s : State) : (s.countGroup).operatingSwitch = s.operatingSwitch := rfl
@[simp] theorem State.countGroup_previousOperatingSwitch (s : State) : (s.countGroup).previousOperatingSwitch = s.previousOperatingSwitch := rfl
@[simp] theorem State.countGroup_zeroizeSwitch (s : State) : (s.countGroup).zeroizeSwitch = s.zeroizeSwitch := rfl
@[simp] theorem State.countGroup_machineVariant (s : State) : (s.countGroup).machineVariant = s.machineVariant := rfl
@[simp] theorem State.countGroup_config (s : State) : (s.countGroup).config = s.config := rfl
@[simp] theorem State.countGroup_out (s : State) : (s.countGroup).out = s.out := rfl
@[simp] theorem State.countGroup_events (s : State) : (s.countGroup).events = s.events := rfl

@[simp] theorem State.countLockup_C (s : State) : (s.countLockup).C = s.C := rfl
@[simp] theorem State.countLockup_K (s : State) : (s.countLockup).K = s.K := rfl
@[simp] theorem State.countLockup_I (s : State) : (s.countLockup).I = s.I := rfl
@[simp] theorem State.countLockup_lockupCount (s : State) : (s.countLockup).lockupCount = s.lockupCount + 1 := rfl
@[simp] theorem State.countLockup_keystrokeCount (s : State) : (s.countLockup).keystrokeCount = s.keystrokeCount := rfl
@[simp] theorem State.countLockup_groupCount (s : State) : (s.countLockup).groupCount = s.groupCount := rfl
@[simp] theorem State.countLockup_operatingSwitch (s : State) : (s.countLockup).operatingSwitch = s.operatingSwitch := rfl
@[simp] theorem State.countLockup_previousOperatingSwitch (s : State) : (s.countLockup).previousOperatingSwitch = s.previousOperatingSwitch := rfl
@[simp] theorem State.countLockup_zeroizeSwitch (s : State) : (s.countLockup).zeroizeSwitch = s.zeroizeSwitch := rfl
@[simp] theorem State.countLockup_machineVariant (s : State) : (s.countLockup).machineVariant = s.machineVariant := rfl
@[simp] theorem State.countLockup_config (s : State) : (s.countLockup).config = s.config := rfl
@[simp] theorem State.countLockup_out (s : State) : (s.countLockup).out = s.out := rfl
@[simp] theorem State.countLockup_events (s : State) : (s.countLockup).events = s.events := rfl

@[simp] theorem State.rotControlCW_C (s : State) (i : Slot) : (s.rotControlCW i).C = s.C := rfl
@[simp] theorem State.rotControlCW_K (s : State) (i : Slot) : (s.rotControlCW i).K = s.K.set i (s.controlRotor i).rotCW := rfl
@[simp] theorem State.rotControlCW_I (s : State) (i : Slot) : (s.rotControlCW i).I = s.I := rfl
@[simp] theorem State.rotControlCW_lockupCount (s : State) (i : Slot) : (s.rotControlCW i).lockupCount = s.lockupCount := rfl
@[simp] theorem State.rotControlCW_keystrokeCount (s : State) (i : Slot) : (s.rotControlCW i).keystrokeCount = s.keystrokeCount := rfl
@[simp] theorem State.rotControlCW_groupCount (s : State) (i : Slot) : (s.rotControlCW i).groupCount = s.groupCount := rfl
@[simp] theorem State.rotControlCW_operatingSwitch (s : State) (i : Slot) : (s.rotControlCW i).operatingSwitch = s.operatingSwitch := rfl
@[simp] theorem State.rotControlCW_previousOperatingSwitch (s : State) (i : Slot) : (s.rotControlCW i).previousOperatingSwitch = s.previousOperatingSwitch := rfl
@[simp] theorem State.rotControlCW_zeroizeSwitch (s : State) (i : Slot) : (s.rotControlCW i).zeroizeSwitch = s.zeroizeSwitch := rfl
@[simp] theorem State.rotControlCW_machineVariant (s : State) (i : Slot) : (s.rotControlCW i).machineVariant = s.machineVariant := rfl
@[simp] theorem State.rotControlCW_config (s : State) (i : Slot) : (s.rotControlCW i).config = s.config := rfl
@[simp] theorem State.rotControlCW_out (s : State) (i : Slot) : (s.rotControlCW i).out = s.out := rfl
@[simp] theorem State.rotControlCW_events (s : State) (i : Slot) : (s.rotControlCW i).events = s.events := rfl

@[simp] theorem State.stepEnergized_C (s : State) (v : Variant) (move : Slots Bool) : (s.stepEnergized v move).C = Slots.tabulate fun i => if move.get i then (s.cipherRotor i).stepped (cdir v i) else s.C.get i := rfl
@[simp] theorem State.stepEnergized_K (s : State) (v : Variant) (move : Slots Bool) : (s.stepEnergized v move).K = s.K := rfl
@[simp] theorem State.stepEnergized_I (s : State) (v : Variant) (move : Slots Bool) : (s.stepEnergized v move).I = s.I := rfl
@[simp] theorem State.stepEnergized_lockupCount (s : State) (v : Variant) (move : Slots Bool) : (s.stepEnergized v move).lockupCount = s.lockupCount := rfl
@[simp] theorem State.stepEnergized_keystrokeCount (s : State) (v : Variant) (move : Slots Bool) : (s.stepEnergized v move).keystrokeCount = s.keystrokeCount := rfl
@[simp] theorem State.stepEnergized_groupCount (s : State) (v : Variant) (move : Slots Bool) : (s.stepEnergized v move).groupCount = s.groupCount := rfl
@[simp] theorem State.stepEnergized_operatingSwitch (s : State) (v : Variant) (move : Slots Bool) : (s.stepEnergized v move).operatingSwitch = s.operatingSwitch := rfl
@[simp] theorem State.stepEnergized_previousOperatingSwitch (s : State) (v : Variant) (move : Slots Bool) : (s.stepEnergized v move).previousOperatingSwitch = s.previousOperatingSwitch := rfl
@[simp] theorem State.stepEnergized_zeroizeSwitch (s : State) (v : Variant) (move : Slots Bool) : (s.stepEnergized v move).zeroizeSwitch = s.zeroizeSwitch := rfl
@[simp] theorem State.stepEnergized_machineVariant (s : State) (v : Variant) (move : Slots Bool) : (s.stepEnergized v move).machineVariant = s.machineVariant := rfl
@[simp] theorem State.stepEnergized_config (s : State) (v : Variant) (move : Slots Bool) : (s.stepEnergized v move).config = s.config := rfl
@[simp] theorem State.stepEnergized_out (s : State) (v : Variant) (move : Slots Bool) : (s.stepEnergized v move).out = s.out := rfl
@[simp] theorem State.stepEnergized_events (s : State) (v : Variant) (move : Slots Bool) : (s.stepEnergized v move).events = s.events := rfl

@[simp] theorem State.zeroizeRotors_C (s : State) : (s.zeroizeRotors).C = Slots.fill home26 := rfl
@[simp] theorem State.zeroizeRotors_K (s : State) : (s.zeroizeRotors).K = Slots.fill home26 := rfl
@[simp] theorem State.zeroizeRotors_I (s : State) : (s.zeroizeRotors).I = s.I := rfl
@[simp] theorem State.zeroizeRotors_lockupCount (s : State) : (s.zeroizeRotors).lockupCount = s.lockupCount := rfl
@[simp] theorem State.zeroizeRotors_keystrokeCount (s : State) : (s.zeroizeRotors).keystrokeCount = s.keystrokeCount := rfl
@[simp] theorem State.zeroizeRotors_groupCount (s : State) : (s.zeroizeRotors).groupCount = s.groupCount := rfl
@[simp] theorem State.zeroizeRotors_operatingSwitch (s : State) : (s.zeroizeRotors).operatingSwitch = s.operatingSwitch := rfl
@[simp] theorem State.zeroizeRotors_previousOperatingSwitch (s : State) : (s.zeroizeRotors).previousOperatingSwitch = s.previousOperatingSwitch := rfl
@[simp] theorem State.zeroizeRotors_zeroizeSwitch (s : State) : (s.zeroizeRotors).zeroizeSwitch = s.zeroizeSwitch := rfl
@[simp] theorem State.zeroizeRotors_machineVariant (s : State) : (s.zeroizeRotors).machineVariant = s.machineVariant := rfl
@[simp] theorem State.zeroizeRotors_config (s : State) : (s.zeroizeRotors).config = s.config := rfl
@[simp] theorem State.zeroizeRotors_out (s : State) : (s.zeroizeRotors).out = s.out := rfl
@[simp] theorem State.zeroizeRotors_events (s : State) : (s.zeroizeRotors).events = s.events := rfl

@[simp] theorem State.stepTowardHome_C (s : State) (v : Variant) : (s.stepTowardHome v).C = Slots.tabulate fun i => if atHome (s.C.get i) then s.C.get i else (s.cipherRotor i).stepped (cdir v i) := rfl
@[simp] theorem State.stepTowardHome_K (s : State) (v : Variant) : (s.stepTowardHome v).K = Slots.tabulate fun i => if atHome (s.K.get i) then s.K.get i else (s.controlRotor i).rotCW := rfl
@[simp] theorem State.stepTowardHome_I (s : State) (v : Variant) : (s.stepTowardHome v).I = s.I := rfl
@[simp] theorem State.stepTowardHome_lockupCount (s : State) (v : Variant) : (s.stepTowardHome v).lockupCount = s.lockupCount := rfl
@[simp] theorem State.stepTowardHome_keystrokeCount (s : State) (v : Variant) : (s.stepTowardHome v).keystrokeCount = s.keystrokeCount := rfl
@[simp] theorem State.stepTowardHome_groupCount (s : State) (v : Variant) : (s.stepTowardHome v).groupCount = s.groupCount := rfl
@[simp] theorem State.stepTowardHome_operatingSwitch (s : State) (v : Variant) : (s.stepTowardHome v).operatingSwitch = s.operatingSwitch := rfl
@[simp] theorem State.stepTowardHome_previousOperatingSwitch (s : State) (v : Variant) : (s.stepTowardHome v).previousOperatingSwitch = s.previousOperatingSwitch := rfl
@[simp] theorem State.stepTowardHome_zeroizeSwitch (s : State) (v : Variant) : (s.stepTowardHome v).zeroizeSwitch = s.zeroizeSwitch := rfl
@[simp] theorem State.stepTowardHome_machineVariant (s : State) (v : Variant) : (s.stepTowardHome v).machineVariant = s.machineVariant := rfl
@[simp] theorem State.stepTowardHome_config (s : State) (v : Variant) : (s.stepTowardHome v).config = s.config := rfl
@[simp] theorem State.stepTowardHome_out (s : State) (v : Variant) : (s.stepTowardHome v).out = s.out := rfl
@[simp] theorem State.stepTowardHome_events (s : State) (v : Variant) : (s.stepTowardHome v).events = s.events := rfl

@[simp] theorem State.popEvent_C (s : State) : (s.popEvent).C = s.C := rfl
@[simp] theorem State.popEvent_K (s : State) : (s.popEvent).K = s.K := rfl
@[simp] theorem State.popEvent_I (s : State) : (s.popEvent).I = s.I := rfl
@[simp] theorem State.popEvent_lockupCount (s : State) : (s.popEvent).lockupCount = s.lockupCount := rfl
@[simp] theorem State.popEvent_keystrokeCount (s : State) : (s.popEvent).keystrokeCount = s.keystrokeCount := rfl
@[simp] theorem State.popEvent_groupCount (s : State) : (s.popEvent).groupCount = s.groupCount := rfl
@[simp] theorem State.popEvent_operatingSwitch (s : State) : (s.popEvent).operatingSwitch = s.operatingSwitch := rfl
@[simp] theorem State.popEvent_previousOperatingSwitch (s : State) : (s.popEvent).previousOperatingSwitch = s.previousOperatingSwitch := rfl
@[simp] theorem State.popEvent_zeroizeSwitch (s : State) : (s.popEvent).zeroizeSwitch = s.zeroizeSwitch := rfl
@[simp] theorem State.popEvent_machineVariant (s : State) : (s.popEvent).machineVariant = s.machineVariant := rfl
@[simp] theorem State.popEvent_config (s : State) : (s.popEvent).config = s.config := rfl
@[simp] theorem State.popEvent_out (s : State) : (s.popEvent).out = s.out := rfl
@[simp] theorem State.popEvent_events (s : State) : (s.popEvent).events = s.events.tail := rfl

@[simp] theorem State.present_C (s : State) (w : Word) : (s.present w).C = s.C := rfl
@[simp] theorem State.present_K (s : State) (w : Word) : (s.present w).K = s.K := rfl
@[simp] theorem State.present_I (s : State) (w : Word) : (s.present w).I = s.I := rfl
@[simp] theorem State.present_lockupCount (s : State) (w : Word) : (s.present w).lockupCount = s.lockupCount := rfl
@[simp] theorem State.present_keystrokeCount (s : State) (w : Word) : (s.present w).keystrokeCount = s.keystrokeCount := rfl
@[simp] theorem State.present_groupCount (s : State) (w : Word) : (s.present w).groupCount = s.groupCount := rfl
@[simp] theorem State.present_operatingSwitch (s : State) (w : Word) : (s.present w).operatingSwitch = s.operatingSwitch := rfl
@[simp] theorem State.present_previousOperatingSwitch (s : State) (w : Word) : (s.present w).previousOperatingSwitch = s.previousOperatingSwitch := rfl
@[simp] theorem State.present_zeroizeSwitch (s : State) (w : Word) : (s.present w).zeroizeSwitch = s.zeroizeSwitch := rfl
@[simp] theorem State.present_machineVariant (s : State) (w : Word) : (s.present w).machineVariant = s.machineVariant := rfl
@[simp] theorem State.present_config (s : State) (w : Word) : (s.present w).config = s.config := rfl
@[simp] theorem State.present_out (s : State) (w : Word) : (s.present w).out = s.out := rfl
@[simp] theorem State.present_events (s : State) (w : Word) : (s.present w).events = w :: s.events := rfl

@[simp] theorem State.enqueue_C (s : State) (w : Word) : (s.enqueue w).C = s.C := rfl
@[simp] theorem State.enqueue_K (s : State) (w : Word) : (s.enqueue w).K = s.K := rfl
@[simp] theorem State.enqueue_I (s : State) (w : Word) : (s.enqueue w).I = s.I := rfl
@[simp] theorem State.enqueue_lockupCount (s : State) (w : Word) : (s.enqueue w).lockupCount = s.lockupCount := rfl
@[simp] theorem State.enqueue_keystrokeCount (s : State) (w : Word) : (s.enqueue w).keystrokeCount = s.keystrokeCount := rfl
@[simp] theorem State.enqueue_groupCount (s : State) (w : Word) : (s.enqueue w).groupCount = s.groupCount := rfl
@[simp] theorem State.enqueue_operatingSwitch (s : State) (w : Word) : (s.enqueue w).operatingSwitch = s.operatingSwitch := rfl
@[simp] theorem State.enqueue_previousOperatingSwitch (s : State) (w : Word) : (s.enqueue w).previousOperatingSwitch = s.previousOperatingSwitch := rfl
@[simp] theorem State.enqueue_zeroizeSwitch (s : State) (w : Word) : (s.enqueue w).zeroizeSwitch = s.zeroizeSwitch := rfl
@[simp] theorem State.enqueue_machineVariant (s : State) (w : Word) : (s.enqueue w).machineVariant = s.machineVariant := rfl
@[simp] theorem State.enqueue_config (s : State) (w : Word) : (s.enqueue w).config = s.config := rfl
@[simp] theorem State.enqueue_out (s : State) (w : Word) : (s.enqueue w).out = s.out := rfl
@[simp] theorem State.enqueue_events (s : State) (w : Word) : (s.enqueue w).events = s.events ++ [w] := rfl

@[simp] theorem State.resetWith_C (config : Configuration) (values : ResetValues) :
    (State.resetWith config values).C = values.C := rfl
@[simp] theorem State.resetWith_K (config : Configuration) (values : ResetValues) :
    (State.resetWith config values).K = values.K := rfl
@[simp] theorem State.resetWith_I (config : Configuration) (values : ResetValues) :
    (State.resetWith config values).I = values.I := rfl
@[simp] theorem State.resetWith_lockupCount (config : Configuration) (values : ResetValues) :
    (State.resetWith config values).lockupCount = values.lockupCount := rfl
@[simp] theorem State.resetWith_keystrokeCount (config : Configuration) (values : ResetValues) :
    (State.resetWith config values).keystrokeCount = values.keystrokeCount := rfl
@[simp] theorem State.resetWith_groupCount (config : Configuration) (values : ResetValues) :
    (State.resetWith config values).groupCount = values.groupCount := rfl
@[simp] theorem State.resetWith_operatingSwitch (config : Configuration) (values : ResetValues) :
    (State.resetWith config values).operatingSwitch = values.operatingSwitch := rfl
@[simp] theorem State.resetWith_previousOperatingSwitch (config : Configuration) (values : ResetValues) :
    (State.resetWith config values).previousOperatingSwitch = values.previousOperatingSwitch := rfl
@[simp] theorem State.resetWith_zeroizeSwitch (config : Configuration) (values : ResetValues) :
    (State.resetWith config values).zeroizeSwitch = values.zeroizeSwitch := rfl
@[simp] theorem State.resetWith_machineVariant (config : Configuration) (values : ResetValues) :
    (State.resetWith config values).machineVariant = values.machineVariant := rfl
@[simp] theorem State.resetWith_config (config : Configuration) (values : ResetValues) :
    (State.resetWith config values).config = config := rfl
@[simp] theorem State.resetWith_out (config : Configuration) (values : ResetValues) :
    (State.resetWith config values).out = [] := rfl
@[simp] theorem State.resetWith_events (config : Configuration) (values : ResetValues) :
    (State.resetWith config values).events = [] := rfl

/-- A state is its fields. -/
theorem State.ext_fields {s t : State} (hC : s.C = t.C) (hK : s.K = t.K) (hI : s.I = t.I)
    (hl : s.lockupCount = t.lockupCount) (hk : s.keystrokeCount = t.keystrokeCount)
    (hg : s.groupCount = t.groupCount) (ho : s.operatingSwitch = t.operatingSwitch)
    (hp : s.previousOperatingSwitch = t.previousOperatingSwitch) (hz : s.zeroizeSwitch = t.zeroizeSwitch)
    (hv : s.machineVariant = t.machineVariant) (hc : s.config = t.config) (hout : s.out = t.out)
    (he : s.events = t.events) : s = t := by
  cases s; cases t; simp_all

end Sys2Proof.Machine
end

