-- ==== Sys2Proof/Laws/Ops.lean ====
section
/-! SUPPORT. What each shared operation can do, said once. -/

namespace Sys2Proof.Machine

/-- The backward table is a right inverse of the forward table too: an injection of a finite set into
itself is onto (R7). -/
theorem wiring_fwd_bwd (w : Wiring n) (i : Fin n) : tableAt w.fwd (tableAt w.bwd i) = i := by
  have inj : Function.Injective (tableAt w.fwd) :=
    Function.LeftInverse.injective (g := tableAt w.bwd) w.bwd_fwd
  obtain ⟨j, hj⟩ := Finite.surjective_of_injective inj i
  subst hj
  rw [w.bwd_fwd]

/-- The control bank after the odometer, slot by slot (R141). -/
theorem stepControlBank_K_get (s : State) (i : Slot) :
    s.stepControlBank.K.get i =
      if i = fastSlot ∨ (i = mediumSlot ∧ atHome (s.K.get fastSlot)) ∨ (i = slowSlot ∧ atHome (s.K.get mediumSlot))
      then (s.controlRotor i).rotCW else s.K.get i := by
  unfold State.stepControlBank
  generalize atHome (s.K.get fastSlot) = fastHome
  generalize atHome (s.K.get mediumSlot) = mediumHome
  cases fastHome <;> cases mediumHome <;> fin_cases i <;>
    simp [fastSlot, mediumSlot, slowSlot, Slots.get_set, State.controlRotor]

/-- The odometer writes the control positions and nothing else (R141). -/
theorem stepControlBank_frame (s : State) : s.stepControlBank = { s with K := s.stepControlBank.K } := by
  unfold State.stepControlBank
  dsimp only
  split <;> split <;> rfl

/-- `stepCipherBank` writes the cipher positions and perhaps `lockupCount`, nothing else (R146). -/
theorem stepCipherBank_eq (s : State) (v : Variant) :
    s.stepCipherBank v =
      { s with
        C := (s.stepEnergized v (s.energized v)).C
        lockupCount := if (s.energized v).get 0 || (s.energized v).get 4 then 0 else s.lockupCount } := by
  unfold State.stepCipherBank State.lockupReset
  dsimp only
  split <;> rfl

@[simp] theorem stepCipherBank_C_get (s : State) (v : Variant) (i : Slot) :
    (s.stepCipherBank v).C.get i =
      if (s.energized v).get i then (s.cipherRotor i).stepped (cdir v i) else s.C.get i := by
  simp [stepCipherBank_eq]

/-- The state after both banks stepped (R148, steps 2 and 3): the control bank moves as it would have before
the cipher bank moved. -/
theorem advance_eq (s : State) (v : Variant) :
    s.advance v =
      { s with
        C := (s.stepCipherBank v).C
        K := s.stepControlBank.K
        lockupCount := (s.stepCipherBank v).lockupCount } := by
  have hK : (s.stepCipherBank v).stepControlBank.K = s.stepControlBank.K := by
    apply Slots.ext_get
    intro i
    rw [stepControlBank_K_get, stepControlBank_K_get]
    simp [stepCipherBank_eq, State.controlRotor]
  unfold State.advance
  rw [stepControlBank_frame, hK]
  simp [stepCipherBank_eq]

@[simp] theorem energized_beginEvent (s : State) (v : Variant) : s.beginEvent.energized v = s.energized v := rfl

@[simp] theorem substitute_beginEvent (s : State) (d : Direction) (x : Contact) :
    s.beginEvent.substitute d x = s.substitute d x := by cases d <;> rfl

@[simp] theorem stepCipherBank_beginEvent_C (s : State) (v : Variant) :
    (s.beginEvent.stepCipherBank v).C = (s.stepCipherBank v).C := by
  simp only [stepCipherBank_eq]
  rfl

@[simp] theorem stepCipherBank_beginEvent_lockupCount (s : State) (v : Variant) :
    (s.beginEvent.stepCipherBank v).lockupCount = (s.stepCipherBank v).lockupCount := by
  simp only [stepCipherBank_eq]
  rfl

@[simp] theorem stepControlBank_beginEvent_K (s : State) :
    s.beginEvent.stepControlBank.K = s.stepControlBank.K := by
  apply Slots.ext_get
  intro i
  rw [stepControlBank_K_get, stepControlBank_K_get]
  rfl

/-- Which magnets are energized depends on the control and index positions and the configuration alone
(R142, R143). -/
theorem energized_congr {s t : State} (hK : s.K = t.K) (hI : s.I = t.I) (hc : s.config = t.config)
    (v : Variant) : s.energized v = t.energized v := by
  cases s; cases t
  simp only at hK hI hc
  subst hK hI hc
  rfl

/-- One press of the Zeroize-mode Blank key writes the cipher and control positions and nothing else (R193). -/
theorem stepTowardHome_frame (s : State) (v : Variant) :
    s.stepTowardHome v = { s with C := (s.stepTowardHome v).C, K := (s.stepTowardHome v).K } := rfl

/-- A position override writes the positions of one bank (R125). -/
theorem setPositions_frame (s : State) (bank : Bank) (sym : Slots Nat) :
    s.setPositions bank sym =
      { s with
        C := (s.setPositions bank sym).C
        K := (s.setPositions bank sym).K
        I := (s.setPositions bank sym).I } := by
  cases bank <;> rfl

/-- A gated key changes nothing (R190). -/
theorem handleKey_of_gated {s : State} (k : Key) (h : s.keysGated = true) : handleKey k s = s := by
  simp [handleKey, h, ignoreKey]

/-- The gating rule in terms of the switches and the counter (R190). -/
theorem keysGated_eq_false_iff (s : State) :
    s.keysGated = false ↔ s.operatingSwitch ≠ .off ∧ s.machineVariant ≠ .neutral ∧ s.zeroizeSwitch ≠ .neutral ∧
      s.lockupCount < 21 := by
  have hl := isLocked_iff s
  rw [← Bool.not_eq_true]
  simp only [State.keysGated, State.gatedBySwitches, Bool.or_eq_true, decide_eq_true_eq, hl, not_or, and_assoc, ne_eq,
    Nat.not_le]

/-- A key that passes the gating rule is dispatched under the live variant (R190). -/
theorem handleKey_of_live {s : State} {v : Variant} (k : Key) (ho : s.operatingSwitch ≠ .off)
    (hv : s.machineVariant.variant? = some v) (hz : s.zeroizeSwitch ≠ .neutral) (hl : s.lockupCount < 21) :
    handleKey k s = dispatchKey v k s := by
  have hn : s.machineVariant ≠ .neutral := by
    intro h; rw [h] at hv; exact absurd hv (by simp [VariantSwitch.variant?])
  have hg : s.keysGated = false := (keysGated_eq_false_iff s).2 ⟨ho, hn, hz, hl⟩
  simp [handleKey, hg, hv]

/-- All a key event can do: nothing, or the dispatch of an ungated key (R190). -/
theorem handleKey_cases (k : Key) (s : State) :
    handleKey k s = s ∨
      ∃ v, s.machineVariant.variant? = some v ∧ s.operatingSwitch ≠ .off ∧ s.zeroizeSwitch ≠ .neutral ∧
        s.lockupCount < 21 ∧ handleKey k s = dispatchKey v k s := by
  cases hg : s.keysGated with
  | true => exact .inl (handleKey_of_gated k hg)
  | false =>
    obtain ⟨ho, hn, hz, hl⟩ := (keysGated_eq_false_iff s).1 hg
    cases hv : s.machineVariant.variant? with
    | none => exact .inl (by simp [handleKey, hg, hv, ignoreKey])
    | some v => exact .inr ⟨v, rfl, ho, hz, hl, handleKey_of_live k ho hv hz hl⟩

/-- The cells of the dispatch tables: what an ungated key does is one of these (R190). -/
inductive KeyCell (v : Variant) (s : State) : State → Prop where
  | ignored : KeyCell v s s
  | zeroizeBlank : KeyCell v s (zeroizeBlankKey v s)
  | zeroizeBlankPlaintext : KeyCell v s (zeroizeBlankPlaintextKey s)
  | resetDigit (h : s.operatingSwitch = .reset) (i : Slot) : KeyCell v s (resetDigitKey v i s)
  | resetBlank (h : s.operatingSwitch = .reset) : KeyCell v s (resetBlankKey v s)
  | plaintext (ch : OutChar) : KeyCell v s (plaintextKey ch s)
  | encryptBlank (h : s.operatingSwitch = .encrypt) : KeyCell v s (encryptBlankKey v s)
  | encryptLetter (h : s.operatingSwitch = .encrypt) (x : Contact) : KeyCell v s (encryptLetterKey v x s)
  | decryptBlank (h : s.operatingSwitch = .decrypt) : KeyCell v s (decryptBlankKey v s)
  | decryptLetter (h : s.operatingSwitch = .decrypt) (x : Contact) : KeyCell v s (decryptLetterKey v x s)

theorem dispatchKey_cell (v : Variant) (k : Key) (s : State) : KeyCell v s (dispatchKey v k s) := by
  unfold dispatchKey
  split
  · exact .ignored
  split
  · unfold zeroizeModeKey
    split
    · split
      · exact .ignored
      · exact .zeroizeBlankPlaintext
      all_goals exact .zeroizeBlank
    · exact .ignored
  · exact .ignored
  · unfold operateModeKey
    split
    · exact .ignored
    · next ho =>
      unfold resetModeKey
      split <;> try exact .ignored
      · split
        · exact .resetDigit ho _
        · exact .ignored
      · exact .resetBlank ho
    · unfold plaintextModeKey
      split <;> first | exact .ignored | exact .plaintext _
    · next ho =>
      unfold encryptModeKey
      split
      · exact .encryptBlank ho
      · split
        · exact .encryptLetter ho _
        · exact .ignored
    · next ho =>
      unfold decryptModeKey
      split <;> first | exact .ignored | exact .decryptLetter ho _ | exact .decryptBlank ho

/-- A key is ignored or is one cell of the dispatch tables under the live variant (R190). -/
theorem handleKey_cell (k : Key) (s : State) :
    handleKey k s = s ∨
      ∃ v, s.machineVariant.variant? = some v ∧ s.operatingSwitch ≠ .off ∧ s.zeroizeSwitch ≠ .neutral ∧
        s.lockupCount < 21 ∧ KeyCell v s (handleKey k s) := by
  rcases handleKey_cases k s with h | ⟨v, hv, ho, hz, hl, h⟩
  · exact .inl h
  · exact .inr ⟨v, hv, ho, hz, hl, h ▸ dispatchKey_cell v k s⟩

/-- A cell writes positions of the cipher and control banks, counters and the output, nothing else. -/
theorem KeyCell.frame {v : Variant} {s t : State} (h : KeyCell v s t) :
    t.I = s.I ∧ t.operatingSwitch = s.operatingSwitch ∧ t.previousOperatingSwitch = s.previousOperatingSwitch ∧
      t.zeroizeSwitch = s.zeroizeSwitch ∧ t.machineVariant = s.machineVariant ∧ t.config = s.config ∧
      t.events = s.events := by
  cases h
  case ignored => simp
  case zeroizeBlank => unfold zeroizeBlankKey; dsimp only; split <;> simp
  case zeroizeBlankPlaintext => simp [zeroizeBlankPlaintextKey]
  case resetDigit => simp [resetDigitKey, stepCipherBank_eq]
  case resetBlank => simp [resetBlankKey, stepCipherBank_eq]
  case plaintext => simp [plaintextKey]
  case encryptBlank => simp [encryptBlankKey, advance_eq]
  case encryptLetter => unfold encryptLetterKey State.cycle; dsimp only; split <;> simp [advance_eq]
  case decryptBlank => simp [decryptBlankKey, advance_eq]
  case decryptLetter => simp [decryptLetterKey, State.cycle, advance_eq]

end Sys2Proof.Machine
end

