-- ==== Sys2Proof/Laws/Exec.lean ====
section
/-! SUPPORT. `exec` and `step` in terms of the shared operations. -/

namespace Sys2Proof.Machine

/-- A KEY row is the key event of its key (R190). -/
theorem exec_of_key {i : Instr} {k : Key} (h : i.key? = some k) (s : State) : exec i s = keyEvent k s := by
  cases i <;> simp only [Instr.key?, Option.some.injEq, reduceCtorEq] at h <;> subst h <;> rfl

/-- What each instruction is: a key, or one of the events of 43_switch_events.md. -/
inductive EventCase (s : State) : Instr → State → Prop where
  | nop : EventCase s .nop s.beginEvent
  | key {i : Instr} {k : Key} (h : i.key? = some k) : EventCase s i (handleKey k s.beginEvent)
  | setop {i : Instr} (new : OperatingSwitch)
      (h : (i = .setopOff ∧ new = .off) ∨ (i = .setopPlain ∧ new = .plaintext) ∨ (i = .setopReset ∧ new = .reset) ∨
        (i = .setopEnc ∧ new = .encrypt) ∨ (i = .setopDec ∧ new = .decrypt)) :
      EventCase s i (setOperatingSwitch new s.beginEvent)
  | setz {i : Instr} (z : ZeroizeSwitch) (h : i = .setzZeroize ∨ i = .setzNeutral ∨ i = .setzOperate) :
      EventCase s i { s.beginEvent with zeroizeSwitch := z }
  | setvar {i : Instr} (v : VariantSwitch) (h : i = .setvarCsp889 ∨ i = .setvarCsp2900 ∨ i = .setvarNeutral) :
      EventCase s i { s.beginEvent with machineVariant := v }
  | zeroize : EventCase s .zeroize s.beginEvent.zeroizeRotors
  | setposCipher (a b c d e : Nat) :
      EventCase s (.setposCipher a b c d e) (s.beginEvent.setPositions .cipher ⟨a, b, c, d, e⟩)
  | setposControl (a b c d e : Nat) :
      EventCase s (.setposControl a b c d e) (s.beginEvent.setPositions .control ⟨a, b, c, d, e⟩)
  | setposIndex (a b c d e : Nat) :
      EventCase s (.setposIndex a b c d e) (s.beginEvent.setPositions .index ⟨a, b, c, d, e⟩)

/-- Every instruction answers one of the cases of `EventCase`, and the answer is that state. -/
theorem exec_case (i : Instr) (s : State) : ∃ t, exec i s = .next t ∧ EventCase s i t := by
  cases hk : i.key? with
  | some k => exact ⟨_, exec_of_key hk s, .key hk⟩
  | none =>
    cases i <;> simp only [Instr.key?, reduceCtorEq] at hk
    case nop => exact ⟨_, rfl, .nop⟩
    case setopOff => exact ⟨_, rfl, .setop .off (by simp)⟩
    case setopPlain => exact ⟨_, rfl, .setop .plaintext (by simp)⟩
    case setopReset => exact ⟨_, rfl, .setop .reset (by simp)⟩
    case setopEnc => exact ⟨_, rfl, .setop .encrypt (by simp)⟩
    case setopDec => exact ⟨_, rfl, .setop .decrypt (by simp)⟩
    case setzZeroize => exact ⟨_, rfl, .setz .zeroize (by simp)⟩
    case setzNeutral => exact ⟨_, rfl, .setz .neutral (by simp)⟩
    case setzOperate => exact ⟨_, rfl, .setz .operate (by simp)⟩
    case setvarCsp889 => exact ⟨_, rfl, .setvar .csp889 (by simp)⟩
    case setvarCsp2900 => exact ⟨_, rfl, .setvar .csp2900 (by simp)⟩
    case setvarNeutral => exact ⟨_, rfl, .setvar .neutral (by simp)⟩
    case zeroize => exact ⟨_, rfl, .zeroize⟩
    case setposCipher a b c d e => exact ⟨_, rfl, .setposCipher a b c d e⟩
    case setposControl a b c d e => exact ⟨_, rfl, .setposControl a b c d e⟩
    case setposIndex a b c d e => exact ⟨_, rfl, .setposIndex a b c d e⟩

/-- All a SETOP can do (R171). -/
theorem setOperatingSwitch_eq (new : OperatingSwitch) (s : State) :
    setOperatingSwitch new s =
      { s with
        lockupCount := if new = .off ∨ new = .plaintext ∨ new = .reset then 0 else s.lockupCount
        groupCount :=
          if new = .off ∨ (new = .reset ∧ (s.operatingSwitch = .plaintext ∨ s.operatingSwitch = .encrypt)) then 0
          else s.groupCount
        out := s.out ++
          if new = .reset ∧ (s.operatingSwitch = .plaintext ∨ s.operatingSwitch = .encrypt) then
            List.replicate s.paddingCount .space
          else []
        previousOperatingSwitch := s.operatingSwitch
        operatingSwitch := new } := by
  obtain ⟨_, _, _, _, _, _, old, _, _, _, _, _, _⟩ := s
  cases new <;> cases old <;>
    simp [setOperatingSwitch, writeOperatingSwitch, padGroupFor, clearGroupFor, clearLockupFor, State.emitN,
      State.paddingCount]

/-- A step with nothing on the event port (log 2). -/
theorem step_of_none {s : State} (h : s.nextEvent = none) : step s = .next s := by simp [step, h]

/-- A step that takes a decoded word. -/
theorem step_of_decode {s : State} {w : Word} {i : Instr} (h : s.nextEvent = some w) (hd : decode w = .ok i) :
    step s = exec i s.popEvent := by simp [step, h, hd]

/-- A step that takes a reserved word (R176). -/
theorem step_of_reserved {s : State} {w : Word} {e : Reserved} (h : s.nextEvent = some w)
    (hd : decode w = .error e) : step s = .next s.popEvent.beginEvent := by simp [step, h, hd, execInvalid]

/-- All a step can do: hold, ignore a reserved word, or run the decoded instruction. -/
theorem step_cases (s : State) :
    (s.nextEvent = none ∧ step s = .next s) ∨
      (∃ w e, s.nextEvent = some w ∧ decode w = .error e ∧ step s = .next s.popEvent.beginEvent) ∨
      ∃ w i t, s.nextEvent = some w ∧ decode w = .ok i ∧ step s = .next t ∧ EventCase s.popEvent i t := by
  cases h : s.nextEvent with
  | none => exact .inl ⟨rfl, step_of_none h⟩
  | some w =>
    cases hd : decode w with
    | error e => exact .inr (.inl ⟨w, e, rfl, hd, step_of_reserved h hd⟩)
    | ok i =>
      obtain ⟨t, ht, hc⟩ := exec_case i s.popEvent
      exact .inr (.inr ⟨w, i, t, rfl, hd, (step_of_decode h hd).trans ht, hc⟩)

end Sys2Proof.Machine
end

