-- ==== Sys2Proof/Laws/PerInstr.lean ====
section
/-! SUPPORT. The family RowBits: the encoded word of an instruction carries the fixed bits of its row of
spec/opcode_table.json. -/

namespace Sys2Proof.Laws.RowBits

/-- The lowest fixed bit of the row: bits 31 down to it are fixed. -/
def fixedLow (i : Instr) : Nat :=
  match i with
  | .nop => 0
  | .keyA => 0
  | .keyB => 0
  | .keyC => 0
  | .keyD => 0
  | .keyE => 0
  | .keyF => 0
  | .keyG => 0
  | .keyH => 0
  | .keyI => 0
  | .keyJ => 0
  | .keyK => 0
  | .keyL => 0
  | .keyM => 0
  | .keyN => 0
  | .keyO => 0
  | .keyP => 0
  | .keyQ => 0
  | .keyR => 0
  | .keyS => 0
  | .keyT => 0
  | .keyU => 0
  | .keyV => 0
  | .keyW => 0
  | .keyX => 0
  | .keyY => 0
  | .keyZ => 0
  | .key0 => 0
  | .key1 => 0
  | .key2 => 0
  | .key3 => 0
  | .key4 => 0
  | .key5 => 0
  | .key6 => 0
  | .key7 => 0
  | .key8 => 0
  | .key9 => 0
  | .keyDash => 0
  | .keyBlank => 0
  | .keySpace => 0
  | .keyRpt => 0
  | .setopOff => 0
  | .setopPlain => 0
  | .setopReset => 0
  | .setopEnc => 0
  | .setopDec => 0
  | .setzZeroize => 0
  | .setzNeutral => 0
  | .setzOperate => 0
  | .setvarCsp889 => 0
  | .setvarCsp2900 => 0
  | .setvarNeutral => 0
  | .zeroize => 0
  | .setposCipher _ _ _ _ _ => 25
  | .setposControl _ _ _ _ _ => 25
  | .setposIndex _ _ _ _ _ => 25

/-- The value of the row's fixed bits. -/
def fixedValue (i : Instr) : Nat :=
  match i with
  | .nop => 0x00000000
  | .keyA => 0x10000000
  | .keyB => 0x10000001
  | .keyC => 0x10000002
  | .keyD => 0x10000003
  | .keyE => 0x10000004
  | .keyF => 0x10000005
  | .keyG => 0x10000006
  | .keyH => 0x10000007
  | .keyI => 0x10000008
  | .keyJ => 0x10000009
  | .keyK => 0x1000000A
  | .keyL => 0x1000000B
  | .keyM => 0x1000000C
  | .keyN => 0x1000000D
  | .keyO => 0x1000000E
  | .keyP => 0x1000000F
  | .keyQ => 0x10000010
  | .keyR => 0x10000011
  | .keyS => 0x10000012
  | .keyT => 0x10000013
  | .keyU => 0x10000014
  | .keyV => 0x10000015
  | .keyW => 0x10000016
  | .keyX => 0x10000017
  | .keyY => 0x10000018
  | .keyZ => 0x10000019
  | .key0 => 0x1000001A
  | .key1 => 0x1000001B
  | .key2 => 0x1000001C
  | .key3 => 0x1000001D
  | .key4 => 0x1000001E
  | .key5 => 0x1000001F
  | .key6 => 0x10000020
  | .key7 => 0x10000021
  | .key8 => 0x10000022
  | .key9 => 0x10000023
  | .keyDash => 0x10000024
  | .keyBlank => 0x10000025
  | .keySpace => 0x10000026
  | .keyRpt => 0x10000027
  | .setopOff => 0x20000000
  | .setopPlain => 0x20000001
  | .setopReset => 0x20000002
  | .setopEnc => 0x20000003
  | .setopDec => 0x20000004
  | .setzZeroize => 0x30000000
  | .setzNeutral => 0x30000001
  | .setzOperate => 0x30000002
  | .setvarCsp889 => 0x40000000
  | .setvarCsp2900 => 0x40000001
  | .setvarNeutral => 0x40000002
  | .zeroize => 0x50000000
  | .setposCipher _ _ _ _ _ => 48
  | .setposControl _ _ _ _ _ => 50
  | .setposIndex _ _ _ _ _ => 52

/-- A well-formed instruction's word carries the fixed bits of its row. -/
def Statement (i : Instr) : Prop :=
  i.wellFormed = true → evBits (encode i) 31 (fixedLow i) = fixedValue i

theorem nop : Statement .nop := fun _ => by decide
theorem keyA : Statement .keyA := fun _ => by decide
theorem keyB : Statement .keyB := fun _ => by decide
theorem keyC : Statement .keyC := fun _ => by decide
theorem keyD : Statement .keyD := fun _ => by decide
theorem keyE : Statement .keyE := fun _ => by decide
theorem keyF : Statement .keyF := fun _ => by decide
theorem keyG : Statement .keyG := fun _ => by decide
theorem keyH : Statement .keyH := fun _ => by decide
theorem keyI : Statement .keyI := fun _ => by decide
theorem keyJ : Statement .keyJ := fun _ => by decide
theorem keyK : Statement .keyK := fun _ => by decide
theorem keyL : Statement .keyL := fun _ => by decide
theorem keyM : Statement .keyM := fun _ => by decide
theorem keyN : Statement .keyN := fun _ => by decide
theorem keyO : Statement .keyO := fun _ => by decide
theorem keyP : Statement .keyP := fun _ => by decide
theorem keyQ : Statement .keyQ := fun _ => by decide
theorem keyR : Statement .keyR := fun _ => by decide
theorem keyS : Statement .keyS := fun _ => by decide
theorem keyT : Statement .keyT := fun _ => by decide
theorem keyU : Statement .keyU := fun _ => by decide
theorem keyV : Statement .keyV := fun _ => by decide
theorem keyW : Statement .keyW := fun _ => by decide
theorem keyX : Statement .keyX := fun _ => by decide
theorem keyY : Statement .keyY := fun _ => by decide
theorem keyZ : Statement .keyZ := fun _ => by decide
theorem key0 : Statement .key0 := fun _ => by decide
theorem key1 : Statement .key1 := fun _ => by decide
theorem key2 : Statement .key2 := fun _ => by decide
theorem key3 : Statement .key3 := fun _ => by decide
theorem key4 : Statement .key4 := fun _ => by decide
theorem key5 : Statement .key5 := fun _ => by decide
theorem key6 : Statement .key6 := fun _ => by decide
theorem key7 : Statement .key7 := fun _ => by decide
theorem key8 : Statement .key8 := fun _ => by decide
theorem key9 : Statement .key9 := fun _ => by decide
theorem keyDash : Statement .keyDash := fun _ => by decide
theorem keyBlank : Statement .keyBlank := fun _ => by decide
theorem keySpace : Statement .keySpace := fun _ => by decide
theorem keyRpt : Statement .keyRpt := fun _ => by decide
theorem setopOff : Statement .setopOff := fun _ => by decide
theorem setopPlain : Statement .setopPlain := fun _ => by decide
theorem setopReset : Statement .setopReset := fun _ => by decide
theorem setopEnc : Statement .setopEnc := fun _ => by decide
theorem setopDec : Statement .setopDec := fun _ => by decide
theorem setzZeroize : Statement .setzZeroize := fun _ => by decide
theorem setzNeutral : Statement .setzNeutral := fun _ => by decide
theorem setzOperate : Statement .setzOperate := fun _ => by decide
theorem setvarCsp889 : Statement .setvarCsp889 := fun _ => by decide
theorem setvarCsp2900 : Statement .setvarCsp2900 := fun _ => by decide
theorem setvarNeutral : Statement .setvarNeutral := fun _ => by decide
theorem zeroize : Statement .zeroize := fun _ => by decide
theorem setposCipher (a b c d e : Nat) : Statement (.setposCipher a b c d e) := by
  intro h
  simp only [Instr.wellFormed, symbolOk, Bool.and_eq_true, decide_eq_true_eq] at h
  simp only [evBits_eq, encode, encodeSetpos_toNat, fixedLow, fixedValue]
  omega

theorem setposControl (a b c d e : Nat) : Statement (.setposControl a b c d e) := by
  intro h
  simp only [Instr.wellFormed, symbolOk, Bool.and_eq_true, decide_eq_true_eq] at h
  simp only [evBits_eq, encode, encodeSetpos_toNat, fixedLow, fixedValue]
  omega

theorem setposIndex (a b c d e : Nat) : Statement (.setposIndex a b c d e) := by
  intro h
  simp only [Instr.wellFormed, symbolOk, Bool.and_eq_true, decide_eq_true_eq] at h
  simp only [evBits_eq, encode, encodeSetpos_toNat, fixedLow, fixedValue]
  omega


end Sys2Proof.Laws.RowBits
end

