-- ==== Sys2Proof/Machine/Script.lean ====
section
/-! DEFINITION. The script syntax: one event a line, mnemonic then operand, `;` starts a comment (R82), and
the pseudo-events (R83). The conventions the spec leaves open are log 14. -/

namespace Sys2Proof.Machine

/-- A blank of a script line. -/
def isBlankChar (ch : Char) : Bool := decide (ch = ' ') || decide (ch = '\t')

/-- The line without blanks at either end. -/
def trimBlanks (l : List Char) : List Char := ((l.dropWhile isBlankChar).reverse.dropWhile isBlankChar).reverse

/-- The line up to its comment (R82). -/
def stripComment (l : List Char) : List Char := l.takeWhile fun ch => decide (ch ≠ ';')

/-- The first token of a line. -/
def firstToken (l : List Char) : List Char := (trimBlanks l).takeWhile fun ch => !isBlankChar ch

/-- What follows the first token. -/
def afterToken (l : List Char) : List Char := trimBlanks ((trimBlanks l).dropWhile fun ch => !isBlankChar ch)

/-- The text between the quotes of a quoted operand. -/
def quoted? (l : List Char) : Option (List Char) :=
  match l with
  | [] => none
  | q :: rest =>
    if q = '"' ∧ rest.getLast? = some '"' ∧ '"' ∉ rest.dropLast then some rest.dropLast else none

/-- The operand of `KEY` (R82). -/
def keyOperand (l : List Char) : Option Key :=
  if l = "DASH".toList then some .dash
  else if l = "BLANK".toList then some .blank
  else if l = "SPACE".toList then some .spaceBar
  else if l = "RPT".toList then some .rpt
  else match l with
    | [ch] =>
      match letterValue ch, digitValue ch with
      | some i, _ => some (.letter i)
      | none, some d => some (.digit d)
      | none, none => none
    | _ => none

/-- The operand of `SETOP` (R82). -/
def setopOperand (l : List Char) : Option OperatingSwitch :=
  if l = "OFF".toList then some .off
  else if l = "PLAIN".toList then some .plaintext
  else if l = "RESET".toList then some .reset
  else if l = "ENC".toList then some .encrypt
  else if l = "DEC".toList then some .decrypt
  else none

/-- The operand of `SETZ` (R82). -/
def setzOperand (l : List Char) : Option ZeroizeSwitch :=
  if l = "ZEROIZE".toList then some .zeroize
  else if l = "NEUTRAL".toList then some .neutral
  else if l = "OPERATE".toList then some .operate
  else none

/-- The operand of `SETVAR` and of `INIT` (R82, R83). -/
def setvarOperand (l : List Char) : Option VariantSwitch :=
  if l = "CSP889".toList then some .csp889
  else if l = "CSP2900".toList then some .csp2900
  else if l = "NEUTRAL".toList then some .neutral
  else none

/-- The bank operand of `SETPOS` (R82). -/
def bankOperand (l : List Char) : Option Bank :=
  if l = "CIPHER".toList then some .cipher
  else if l = "CONTROL".toList then some .control
  else if l = "INDEX".toList then some .index
  else none

/-- `SETPOS <bank> <c0><c1><c2><c3><c4>`, or with a quoted text of any length (R82, R83). -/
def setposLine (l : List Char) : Option (List Instr) :=
  match bankOperand (firstToken l) with
  | none => none
  | some bank =>
    match quoted? (afterToken l) with
    | some text => some [setPositionsText bank text]
    | none => if (afterToken l).length = 5 then some [setPositionsText bank (afterToken l)] else none

/-- The events of one script line; none where the line is not of the syntax (R82, R83). A blank line and a
line that is only a comment assemble to no event: R82 is silent on a line without a mnemonic (DESIGN CHOICE,
safe: log 14). -/
def assembleLine (line : List Char) : Option (List Instr) :=
  let l := stripComment line
  let mn := firstToken l
  let arg := afterToken l
  if mn = [] then some []
  else if mn = "NOP".toList then (if arg = [] then some [.nop] else none)
  else if mn = "KEY".toList then (keyOperand arg).map fun k => [k.instr]
  else if mn = "SETOP".toList then (setopOperand arg).map fun sw => [sw.instr]
  else if mn = "SETZ".toList then (setzOperand arg).map fun z => [z.instr]
  else if mn = "SETVAR".toList then (setvarOperand arg).map fun v => [v.instr]
  else if mn = "ZEROIZE".toList then (if arg = [] then some [.zeroize] else none)
  else if mn = "SETPOS".toList then setposLine arg
  else if mn = "TYPE".toList then (quoted? arg).bind typeEvents
  else if mn = "INIT".toList then (setvarOperand arg).map initEvents
  else none

/-- The events of a script, line after line. -/
def assemble (lines : List (List Char)) : Option (List Instr) :=
  match lines with
  | [] => some []
  | l :: rest =>
    match assembleLine l, assemble rest with
    | some a, some b => some (a ++ b)
    | _, _ => none

/-- The event words of a list of instructions (R80). -/
def eventWords (is : List Instr) : List Word := is.map encode

end Sys2Proof.Machine
end

