-- ==== Sys2Proof/Tests/Slice0.lean ====
section
/-! SUPPORT. Tests. Every expected value is taken from the tables of 95_test_vectors.md or worked out from the
rule cited; the witnesses show that the hypotheses of the statements can be met. -/

namespace Sys2Proof.Tests

open Sys2Proof.Machine

/-- Each word decodes to the instruction beside it. -/
def decodesAs (rows : List (Word × Instr)) : Bool :=
  rows.all fun r => match decode r.1 with
    | .ok i => decide (i = r.2)
    | .error _ => false

/-- Each word is rejected for the reason beside it. -/
def rejectedAs (rows : List (Word × Reserved)) : Bool :=
  rows.all fun r => match decode r.1 with
    | .ok _ => false
    | .error e => decide (e = r.2)

/-- The reset state (FIX-A, FIX-GK) with the switches and the lockup count moved. -/
def live (op : OperatingSwitch) (z : ZeroizeSwitch) (v : VariantSwitch) (lock : Nat) : State :=
  { State.reset with operatingSwitch := op, zeroizeSwitch := z, machineVariant := v, lockupCount := lock }

/-- The next state of one instruction. -/
def after (i : Instr) (s : State) : State :=
  match exec i s with
  | .next t => t
  | .fault _ => s
  | .refused _ => s

/-- The fixture parameters as a host would supply them. -/
def rawFixture : RawParameters where
  cipherTables := [Fixture.fix26t0.fwd, Fixture.fix26t10.fwd]
  controlTables := [Fixture.fix26t10.fwd]
  indexTables := [Fixture.fix10t5.fwd]
  c2i889 := Fixture.crossGK.c2i889
  c2i2900 := Fixture.crossGK.c2i2900
  i2m := Fixture.crossGK.i2m
  drive889 := Fixture.crossGK.drive889
  drive2900 := Fixture.crossGK.drive2900
  cipherOrder := defaultCipherOrder
  controlOrder := defaultControlOrder
  indexOrder := defaultIndexOrder

/-! ### Well-formedness: an ill-formed term for each check, which the check refuses (R77) -/

theorem test_wellFormed_setposCipher : (Instr.setposCipher 31 31 31 31 31).wellFormed = true ∧
    (Instr.setposCipher 32 31 31 31 31).wellFormed = false ∧
    (Instr.setposCipher 31 32 31 31 31).wellFormed = false ∧
    (Instr.setposCipher 31 31 32 31 31).wellFormed = false ∧
    (Instr.setposCipher 31 31 31 32 31).wellFormed = false ∧
    (Instr.setposCipher 31 31 31 31 32).wellFormed = false := by decide

theorem test_wellFormed_setposControl : (Instr.setposControl 31 31 31 31 31).wellFormed = true ∧
    (Instr.setposControl 32 31 31 31 31).wellFormed = false ∧
    (Instr.setposControl 31 32 31 31 31).wellFormed = false ∧
    (Instr.setposControl 31 31 32 31 31).wellFormed = false ∧
    (Instr.setposControl 31 31 31 32 31).wellFormed = false ∧
    (Instr.setposControl 31 31 31 31 32).wellFormed = false := by decide

theorem test_wellFormed_setposIndex : (Instr.setposIndex 31 31 31 31 31).wellFormed = true ∧
    (Instr.setposIndex 32 31 31 31 31).wellFormed = false ∧
    (Instr.setposIndex 31 32 31 31 31).wellFormed = false ∧
    (Instr.setposIndex 31 31 32 31 31).wellFormed = false ∧
    (Instr.setposIndex 31 31 31 32 31).wellFormed = false ∧
    (Instr.setposIndex 31 31 31 31 32).wellFormed = false := by decide

/-! ### Decoding: every row by a word written from 30_encoding.md (R71 to R78) and section 3 of the vectors -/

theorem test_decode_keys_0_to_9 : decodesAs
    [(0x10000000#32, .keyA), (0x10000001#32, .keyB), (0x10000002#32, .keyC), (0x10000003#32, .keyD),
     (0x10000004#32, .keyE), (0x10000005#32, .keyF), (0x10000006#32, .keyG), (0x10000007#32, .keyH),
     (0x10000008#32, .keyI), (0x10000009#32, .keyJ)] = true := by decide

theorem test_decode_keys_10_to_19 : decodesAs
    [(0x1000000A#32, .keyK), (0x1000000B#32, .keyL), (0x1000000C#32, .keyM), (0x1000000D#32, .keyN),
     (0x1000000E#32, .keyO), (0x1000000F#32, .keyP), (0x10000010#32, .keyQ), (0x10000011#32, .keyR),
     (0x10000012#32, .keyS), (0x10000013#32, .keyT)] = true := by decide

theorem test_decode_keys_20_to_29 : decodesAs
    [(0x10000014#32, .keyU), (0x10000015#32, .keyV), (0x10000016#32, .keyW), (0x10000017#32, .keyX),
     (0x10000018#32, .keyY), (0x10000019#32, .keyZ), (0x1000001A#32, .key0), (0x1000001B#32, .key1),
     (0x1000001C#32, .key2), (0x1000001D#32, .key3)] = true := by decide

theorem test_decode_keys_30_to_39 : decodesAs
    [(0x1000001E#32, .key4), (0x1000001F#32, .key5), (0x10000020#32, .key6), (0x10000021#32, .key7),
     (0x10000022#32, .key8), (0x10000023#32, .key9), (0x10000024#32, .keyDash), (0x10000025#32, .keyBlank),
     (0x10000026#32, .keySpace), (0x10000027#32, .keyRpt)] = true := by decide

theorem test_decode_nop_and_zeroize : decodesAs
    [(0x00000000#32, .nop), (0x50000000#32, .zeroize)] = true := by decide

theorem test_decode_setop : decodesAs
    [(0x20000000#32, .setopOff), (0x20000001#32, .setopPlain), (0x20000002#32, .setopReset),
     (0x20000003#32, .setopEnc), (0x20000004#32, .setopDec)] = true := by decide

theorem test_decode_setz : decodesAs
    [(0x30000000#32, .setzZeroize), (0x30000001#32, .setzNeutral), (0x30000002#32, .setzOperate)] = true := by decide

theorem test_decode_setvar : decodesAs
    [(0x40000000#32, .setvarCsp889), (0x40000001#32, .setvarCsp2900), (0x40000002#32, .setvarNeutral)] = true := by decide

theorem test_decode_setpos : decodesAs
    [(0x60E739CE#32, .setposCipher 14 14 14 14 14), (0x64418820#32, .setposControl 0 1 2 3 4),
     (0x68527C41#32, .setposIndex 1 2 31 4 5), (0x65FFFC20#32, .setposControl 0 1 31 31 31),
     (0x61FFFFFF#32, .setposCipher 31 31 31 31 31), (0x68000000#32, .setposIndex 0 0 0 0 0)] = true := by decide

theorem test_reject_reserved : rejectedAs
    [(0x10000028#32, .keyCode), (0x1000003F#32, .keyCode), (0x10000047#32, .payload),
     (0x20000005#32, .operatingCode), (0x20000008#32, .payload), (0x30000003#32, .zeroizeCode),
     (0x30000004#32, .payload), (0x40000003#32, .variantCode), (0x48000000#32, .payload),
     (0x50000001#32, .payload), (0x00000001#32, .payload), (0x6C000000#32, .bankCode),
     (0x62000000#32, .payload), (0x70000000#32, .opcode), (0xF0000000#32, .opcode)] = true := by decide

theorem test_encode_setpos_words : encode (.setposControl 0 1 2 3 4) = 0x64418820#32 ∧
    encode (.setposIndex 1 2 31 4 5) = 0x68527C41#32 ∧ encode (.setposCipher 31 31 31 31 31) = 0x61FFFFFF#32 := by decide

/-! ### Rotors, banks and the stepping network (95_test_vectors.md sections 4.1 to 4.5) -/

theorem test_rotor_step_vectors :
    (⟨14, ⟨Fixture.fix26t0, false⟩⟩ : Rotor 26).rotCW = 13 ∧ (⟨14, ⟨Fixture.fix26t0, true⟩⟩ : Rotor 26).rotCW = 15 ∧
    (⟨0, ⟨Fixture.fix26t0, false⟩⟩ : Rotor 26).rotCW = 25 ∧ (⟨25, ⟨Fixture.fix26t0, false⟩⟩ : Rotor 26).rotCCW = 0 ∧
    (⟨0, ⟨Fixture.fix10t0, false⟩⟩ : Rotor 10).rotCW = 9 ∧ (⟨0, ⟨Fixture.fix10t0, true⟩⟩ : Rotor 10).rotCCW = 9 := by decide

theorem test_passes_normal_row3 : passPrimary (⟨14, ⟨Fixture.fix26t0, false⟩⟩ : Rotor 26) 7 = 24 ∧
    passSecondary (⟨14, ⟨Fixture.fix26t0, false⟩⟩ : Rotor 26) 7 = 9 := by decide

theorem test_passes_reversed_row8 : passPrimary (⟨14, ⟨Fixture.fix26t0, true⟩⟩ : Rotor 26) 7 = 5 ∧
    passSecondary (⟨14, ⟨Fixture.fix26t0, true⟩⟩ : Rotor 26) 7 = 20 := by decide

theorem test_passes_index_rotor : passPrimary (⟨3, ⟨Fixture.fix10t0, false⟩⟩ : Rotor 10) 8 = 5 ∧
    passSecondary (⟨9, ⟨Fixture.fix10t0, true⟩⟩ : Rotor 10) 0 = 2 := by decide

theorem test_substitute_at_home : State.reset.substitute .encrypt 7 = 20 ∧ State.reset.substitute .decrypt 20 = 7 := by
  decide

theorem test_control_and_index_paths : State.reset.controlPath 5 = 17 ∧ State.reset.indexPath 7 = 8 := by decide

theorem test_magnets_csp2900 : State.reset.magnetOf .csp2900 3 = some 3 ∧ State.reset.magnetOf .csp2900 5 = none ∧
    State.reset.magnetOf .csp889 6 = some 0 := by decide

theorem test_odometer_carries : (State.reset.stepControlBank).K = ⟨14, 13, 13, 13, 14⟩ ∧
    ((({ State.reset with K := ⟨14, 14, 0, 14, 14⟩ } : State)).stepControlBank).K = ⟨14, 13, 25, 14, 14⟩ ∧
    ((({ State.reset with K := ⟨14, 14, 14, 0, 14⟩ } : State)).stepControlBank).K = ⟨14, 14, 13, 25, 14⟩ := by decide

theorem test_displays : State.reset.display .cipher = "OOOOO".toList ∧ State.reset.display .index = "00000".toList := by
  decide

/-! ### Key events (95_test_vectors.md sections 4.5, 4.8, 5) -/

/-- P1 event 6. -/
theorem test_keyH_encrypt_csp889 :
    (after .keyH (live .encrypt .operate .csp889 0)).out = [.letter 20] ∧
    (after .keyH (live .encrypt .operate .csp889 0)).C = ⟨13, 13, 14, 14, 14⟩ ∧
    (after .keyH (live .encrypt .operate .csp889 0)).K = ⟨14, 13, 13, 13, 14⟩ ∧
    (after .keyH (live .encrypt .operate .csp889 0)).lockupCount = 1 := by decide

/-- P5 event 6. -/
theorem test_keyH_encrypt_csp2900 :
    (after .keyH (live .encrypt .operate .csp2900 0)).out = [.letter 20] ∧
    (after .keyH (live .encrypt .operate .csp2900 0)).C = ⟨13, 15, 14, 15, 14⟩ := by decide

/-- Section 4.8: `X`, `Z` sent as `X`, the Space-Bar sent as `Z`, and `P` unchanged. -/
theorem test_encrypt_remaps :
    (after .keyX (live .encrypt .operate .csp889 0)).out = [.letter 12] ∧
    (after .keyZ (live .encrypt .operate .csp889 0)).out = [.letter 12] ∧
    (after .keySpace (live .encrypt .operate .csp889 0)).out = [.letter 16] ∧
    (after .keyP (live .encrypt .operate .csp889 0)).out = [.letter 15] := by decide

/-- P6 event 24: the space before the letter when `groupCount` is 5. -/
theorem test_keyF_group_space :
    (after .keyF { live .encrypt .operate .csp889 2 with
      C := ⟨11, 9, 13, 12, 12⟩, K := ⟨14, 13, 9, 13, 14⟩, groupCount := 5, keystrokeCount := 11 }).out =
      [.space, .letter 19] ∧
    (after .keyF { live .encrypt .operate .csp889 2 with
      C := ⟨11, 9, 13, 12, 12⟩, K := ⟨14, 13, 9, 13, 14⟩, groupCount := 5, keystrokeCount := 11 }).lockupCount = 1 := by decide

/-- Section 4.8: the Encrypt and the Decrypt Blank. -/
theorem test_blank_encrypt_and_decrypt :
    (after .keyBlank (live .encrypt .operate .csp889 0)).out = [.space] ∧
    (after .keyBlank (live .encrypt .operate .csp889 0)).groupCount = 1 ∧
    (after .keyBlank (live .encrypt .operate .csp889 0)).lockupCount = 0 ∧
    (after .keyBlank (live .decrypt .operate .csp889 0)).groupCount = 0 ∧
    (after .keyBlank (live .decrypt .operate .csp889 0)).lockupCount = 1 := by decide

/-- Section 4.8: `U` decrypts to `H`, `Q` to a space. -/
theorem test_decrypt_letters : (after .keyU (live .decrypt .operate .csp889 0)).out = [.letter 7] ∧
    (after .keyQ (live .decrypt .operate .csp889 0)).out = [.space] := by decide

/-- P4 event 6, and events 11 and 13. -/
theorem test_reset_keys :
    (after .key1 (live .reset .operate .csp889 0)).C = ⟨13, 13, 14, 14, 14⟩ ∧
    (after .key1 (live .reset .operate .csp889 0)).K = ⟨13, 14, 14, 14, 14⟩ ∧
    (after .key6 (live .reset .operate .csp889 0)).keystrokeCount = 0 ∧
    (after .keyA (live .reset .operate .csp889 0)).keystrokeCount = 0 := by decide

/-- Section 4.8: the Zeroize-mode Blank under CSP-2900. -/
theorem test_zeroize_blank_csp2900 :
    (after .keyBlank { live .reset .zeroize .csp2900 0 with C := ⟨13, 13, 14, 15, 0⟩, K := ⟨15, 14, 13, 14, 0⟩ }).C =
      ⟨12, 14, 14, 16, 25⟩ ∧
    (after .keyBlank { live .reset .zeroize .csp2900 0 with C := ⟨13, 13, 14, 15, 0⟩, K := ⟨15, 14, 13, 14, 0⟩ }).K =
      ⟨14, 14, 12, 14, 25⟩ := by decide

/-- P6 events 6 to 12. -/
theorem test_plaintext_keys :
    (after .keyH (live .plaintext .operate .csp889 0)).out = [.letter 7] ∧
    (after .keyDash (live .plaintext .operate .csp889 0)).out = [.dash] ∧
    (after .key2 (live .plaintext .operate .csp889 0)).out = [.digit 2] ∧
    (after .keySpace (live .plaintext .operate .csp889 0)).out = [.space] ∧
    (after .keyRpt (live .plaintext .operate .csp889 0)).keystrokeCount = 0 := by decide

/-- Lockup gates at 21 and not at 20 (section 4.9). -/
theorem test_lockup_boundary : (after .keyA (live .encrypt .operate .csp889 20)).keystrokeCount = 1 ∧
    (after .keyA (live .encrypt .operate .csp889 21)).keystrokeCount = 0 := by decide

/-! ### Switch and position events (sections 4.6, 4.7) -/

/-- Encrypt to Reset with 12 keystrokes: three spaces. -/
theorem test_setopReset_padding :
    (after .setopReset { live .encrypt .operate .csp889 1 with keystrokeCount := 12, groupCount := 6 }).out =
      [.space, .space, .space] ∧
    (after .setopReset { live .encrypt .operate .csp889 1 with keystrokeCount := 12, groupCount := 6 }).groupCount = 0 ∧
    (after .setopReset { live .decrypt .operate .csp889 1 with keystrokeCount := 9, groupCount := 3 }).out = [] ∧
    (after .setopReset { live .decrypt .operate .csp889 1 with keystrokeCount := 9, groupCount := 3 }).groupCount = 3 := by
  decide

/-- Encrypt to Encrypt, and Encrypt to Off. -/
theorem test_setop_lockup :
    (after .setopEnc (live .encrypt .operate .csp889 21)).lockupCount = 21 ∧
    (after .setopEnc (live .encrypt .operate .csp889 21)).previousOperatingSwitch = .encrypt ∧
    (after .setopOff (live .encrypt .operate .csp889 21)).lockupCount = 0 := by decide

theorem test_zeroize_keeps_index_and_lockup :
    (after .zeroize { live .encrypt .operate .csp889 21 with C := ⟨10, 10, 12, 11, 12⟩, I := ⟨1, 2, 3, 4, 5⟩ }).C =
      ⟨14, 14, 14, 14, 14⟩ ∧
    (after .zeroize { live .encrypt .operate .csp889 21 with C := ⟨10, 10, 12, 11, 12⟩, I := ⟨1, 2, 3, 4, 5⟩ }).I =
      ⟨1, 2, 3, 4, 5⟩ ∧
    (after .zeroize (live .encrypt .operate .csp889 21)).lockupCount = 21 := by decide

theorem test_setpos_sanitises :
    (after (.setposIndex 9 10 15 0 31) State.reset).I = ⟨9, 0, 0, 0, 0⟩ ∧
    (after (.setposCipher 26 27 28 25 30) State.reset).C = ⟨14, 14, 14, 25, 14⟩ ∧
    (after (setPositionsText .control "AB".toList) State.reset).K = ⟨0, 1, 14, 14, 14⟩ ∧
    (after (setPositionsText .index "1x3".toList) State.reset).I = ⟨1, 0, 3, 0, 0⟩ := by decide

/-! ### Configuration, the host port and the script syntax -/

/-- S11: index 12 of a pool of 11 tables, and index -1, take entry 0; orientation is kept. -/
theorem test_configure_fallback :
    configureSlot Fixture.pool26 ⟨12, .reversed⟩ = ⟨Fixture.fix26t0, true⟩ ∧
    configureSlot Fixture.pool26 ⟨-1, .normal⟩ = ⟨Fixture.fix26t0, false⟩ ∧
    configureSlot Fixture.pool26 ⟨10, .normal⟩ = ⟨Fixture.fix26t10, false⟩ := by decide

/-- The reset values are an argument, each with its default of R36 (R8, D12). -/
theorem test_reset_values_argument :
    (match assertReset rawFixture State.reset { lockupCount := 25, operatingSwitch := .encrypt } with
     | .next t => t.isLocked && decide (t.operatingSwitch = .encrypt) && decide (t.C = ⟨14, 14, 14, 14, 14⟩)
     | .fault _ => false
     | .refused _ => false) = true := by decide

theorem test_ports_after_a_key :
    (after .keyH (live .encrypt .operate .csp889 0)).ports.outLen = 1 ∧
    (after .keyH (live .encrypt .operate .csp889 0)).ports.outCh = #v[some (.letter 20), none, none, none] ∧
    (live .encrypt .operate .csp889 21).ports.isLocked = true := by decide

theorem test_script_lines :
    assembleLine "KEY H ; encrypt it".toList = some [.keyH] ∧
    assembleLine "SETPOS INDEX 12?45".toList = some [.setposIndex 1 2 31 4 5] ∧
    assembleLine "INIT CSP889".toList = some [.zeroize, .setposIndex 0 0 0 0 0, .setvarCsp889, .setzOperate] ∧
    assembleLine "TYPE \"A-_ 1\"".toList = some [.keyA, .keyDash, .keyBlank, .keySpace, .key1] ∧
    assembleLine "HALT".toList = none := by decide

/-- Log 14: a line without a mnemonic assembles to no event. -/
theorem test_script_blank_lines :
    assembleLine [] = some [] ∧ assembleLine "  \t".toList = some [] ∧ assembleLine "; a comment".toList = some [] := by decide

/-- A word placed where the step takes its next event is run by that step. -/
theorem test_withFetchWord_runs :
    (match step (State.reset.withFetchWord 32 0x40000001) with
     | .next t => decide (t.machineVariant = .csp2900) && decide (t.events = [])
     | .fault _ => false
     | .refused _ => false) = true := by decide

/-! ### Witnesses: the hypotheses of each statement, met together -/

theorem witness_DecodeOfEncodeIsTheInstruction :
    (Instr.setposIndex 0 31 9 10 25).wellFormed = true := by decide

theorem witness_EncodeOfDecodeIsTheWord :
    decode 0x61FFFFFF#32 = .ok (.setposCipher 31 31 31 31 31) := rfl

theorem witness_ReservedWordIsIgnored :
    ({ State.reset with events := [0x70000000#32] } : State).events = 0x70000000#32 :: [] ∧ decode 0x70000000#32 = .error .opcode := ⟨rfl, rfl⟩

theorem witness_StepRunsTheDecodedInstruction :
    ({ State.reset with events := [0x10000007#32, 0x50000000#32] } : State).events = 0x10000007#32 :: [0x50000000#32] ∧
    decode 0x10000007#32 = .ok .keyH ∧ Instr.keyH.wellFormed = true := ⟨rfl, rfl, rfl⟩

theorem witness_StepHoldsWithoutEvent :
    State.reset.events = [] := rfl

theorem witness_KeyRowsFollowTheKeyCodes :
    Instr.keyRpt.wellFormed = true ∧ Instr.keyRpt.key? = some .rpt ∧ Instr.nop.wellFormed = true ∧ Instr.nop.key? = none := by decide

theorem witness_RawFormsValues :
    ((10 : Contact).val = ((25 : Contact).val + (11 : Contact).val) % 26) ∧ ((12 : Contact).val = ((11 : Contact).val + 26 - (25 : Contact).val) % 26) := by decide

theorem witness_PassesSelectTableAndForm :
    (⟨0, ⟨Fixture.fix26t0, true⟩⟩ : Rotor 26).cfg.rev = true ∧ (⟨0, ⟨Fixture.fix26t0, false⟩⟩ : Rotor 26).cfg.rev = false ∧
    ∀ j : Contact, tableAt (⟨25, ⟨Fixture.fix26t10, true⟩⟩ : Rotor 26).cfg.wiring.fwd j = j := by decide

theorem witness_IdentityWiringSubstitutesNothing :
    ∀ (j : Slot) (c : Contact), tableAt ((({ State.reset with config := { State.reset.config with
      cipher := Slots.fill ⟨Fixture.fix26t10, true⟩ } } : State).config.cipher.get j).wiring.fwd) c = c := by decide

theorem witness_MagnetPathOfAContact_csp889 :
    (Variant.csp889 = .csp889 ∧ State.reset.config.cross.c2i889 = State.reset.config.cross.c2i889) ∧
    tableAt State.reset.config.cross.c2i889 (State.reset.controlPath 5) = some 7 := by decide

theorem witness_MagnetPathOfAContact_csp2900 :
    (Variant.csp2900 = .csp2900 ∧ State.reset.config.cross.c2i2900 = State.reset.config.cross.c2i2900) ∧
    tableAt State.reset.config.cross.c2i2900 (State.reset.controlPath 5) = none := by decide

theorem witness_SteppingIgnoresKeyAndDirection :
    Instr.keyA.key? = some (.letter 0) ∧ Instr.keyZ.key? = some (.letter 25) ∧
    KeyLive (live .encrypt .operate .csp2900 20) .encrypt .operate .csp2900 ∧
    KeyLive { live .decrypt .operate .csp2900 0 with C := Slots.fill 3 } .decrypt .operate .csp2900 ∧
    (live .encrypt .operate .csp2900 20).K = ({ live .decrypt .operate .csp2900 0 with C := Slots.fill 3 } : State).K ∧
    (live .encrypt .operate .csp2900 20).I = ({ live .decrypt .operate .csp2900 0 with C := Slots.fill 3 } : State).I ∧
    (live .encrypt .operate .csp2900 20).config = ({ live .decrypt .operate .csp2900 0 with C := Slots.fill 3 } : State).config := ⟨rfl, rfl, by decide, by decide, rfl, rfl, rfl⟩

theorem witness_GatedKeysAreNoOps :
    Instr.keyBlank.key? = some .blank ∧ (live .off .operate .csp889 0).operatingSwitch = .off ∧
    (live .encrypt .operate .neutral 0).machineVariant = .neutral ∧ (live .encrypt .neutral .csp889 0).zeroizeSwitch = .neutral ∧
    21 ≤ (live .encrypt .operate .csp889 21).lockupCount := by decide

theorem witness_ZeroizeModeIgnoresOtherKeys :
    Instr.keySpace.key? = some .spaceBar ∧ Key.spaceBar ≠ .blank ∧ (live .plaintext .zeroize .csp889 0).zeroizeSwitch = .zeroize := by decide

theorem witness_ZeroizeBlankStepsRotorsTowardHome :
    KeyLive (live .reset .zeroize .csp889 0) .reset .zeroize .csp889 ∧
    KeyLive (live .encrypt .zeroize .csp2900 20) .encrypt .zeroize .csp2900 ∧
    KeyLive (live .decrypt .zeroize .csp2900 20) .decrypt .zeroize .csp2900 := by decide

theorem witness_ZeroizeBlankPlaintextEmitsSpace :
    KeyLive (live .plaintext .zeroize .csp889 0) .plaintext .zeroize .csp889 := by decide

theorem witness_ResetDigitStepsCipherBankThenControlRotor :
    Instr.key1.key? = some (.digit 1) ∧ (1 : IndexContact).val = (0 : Slot).val + 1 ∧ Instr.key5.key? = some (.digit 5) ∧
    (5 : IndexContact).val = (4 : Slot).val + 1 ∧ KeyLive (live .reset .operate .csp2900 20) .reset .operate .csp2900 := by decide

theorem witness_ResetBlankStepsCipherBankOnly :
    KeyLive (live .reset .operate .csp889 0) .reset .operate .csp889 := by decide

theorem witness_ResetModeIgnoresOtherKeys :
    Instr.keyZ.key? = some (.letter 25) ∧ Instr.key0.key? = some (.digit 0) ∧ (0 : IndexContact).val = 0 ∧
    Instr.key6.key? = some (.digit 6) ∧ 6 ≤ (6 : IndexContact).val ∧ Instr.key9.key? = some (.digit 9) ∧
    6 ≤ (9 : IndexContact).val ∧ Instr.keyDash.key? = some .dash ∧ Instr.keySpace.key? = some .spaceBar ∧
    (live .reset .operate .csp889 0).operatingSwitch = .reset ∧ (live .reset .operate .csp889 0).zeroizeSwitch = .operate := by decide

theorem witness_PlaintextEchoesLettersDigitsDash :
    Instr.keyA.key? = some (.letter 0) ∧ Instr.keyZ.key? = some (.letter 25) ∧ Instr.key0.key? = some (.digit 0) ∧
    Instr.key9.key? = some (.digit 9) ∧ Instr.keyDash.key? = some .dash ∧
    KeyLive (live .plaintext .operate .csp2900 0) .plaintext .operate .csp2900 := by decide

theorem witness_PlaintextBlankAndSpaceEmitSpace :
    (Instr.keySpace = .keyBlank ∨ Instr.keySpace = .keySpace) ∧ (Instr.keyBlank = .keyBlank ∨ Instr.keyBlank = .keySpace) ∧
    KeyLive (live .plaintext .operate .csp889 20) .plaintext .operate .csp889 := by decide

theorem witness_EncryptIgnoresDigitsAndDash :
    Instr.key0.key? = some (.digit 0) ∧ Instr.key9.key? = some (.digit 9) ∧ Instr.keyDash.key? = some .dash ∧
    (live .encrypt .operate .csp889 0).operatingSwitch = .encrypt ∧ (live .encrypt .operate .csp889 0).zeroizeSwitch = .operate := by decide

theorem witness_EncryptBlankCyclesAndEmitsSpace :
    KeyLive (live .encrypt .operate .csp2900 20) .encrypt .operate .csp2900 := by decide

theorem witness_EncryptLettersSubstituteThenStep :
    Instr.keyY.key? = some (.letter 24) ∧ (24 : Contact) = (if (24 : Contact) = 25 then 23 else 24) ∧
    Instr.keyZ.key? = some (.letter 25) ∧ (23 : Contact) = (if (25 : Contact) = 25 then 23 else 25) ∧
    Instr.keySpace.key? = some .spaceBar ∧ KeyLive (live .encrypt .operate .csp889 20) .encrypt .operate .csp889 := by decide

theorem witness_DecryptIgnoresSpaceDigitsDash :
    Instr.keySpace.key? = some .spaceBar ∧ Instr.key0.key? = some (.digit 0) ∧ Instr.key9.key? = some (.digit 9) ∧
    Instr.keyDash.key? = some .dash ∧ (live .decrypt .operate .csp889 0).operatingSwitch = .decrypt ∧
    (live .decrypt .operate .csp889 0).zeroizeSwitch = .operate := by decide

theorem witness_DecryptBlankCyclesAndEmitsSpace :
    KeyLive (live .decrypt .operate .csp889 20) .decrypt .operate .csp889 := by decide

theorem witness_DecryptLettersSubstituteThenStep :
    Instr.keyA.key? = some (.letter 0) ∧ Instr.keyZ.key? = some (.letter 25) ∧
    KeyLive (live .decrypt .operate .csp2900 0) .decrypt .operate .csp2900 := by decide

theorem witness_StepKeepsCountersOk :
    CountersOk State.reset ∧ ∃ t, step (State.reset.present 0x10000007#32) = .next t := ⟨⟨by decide, by decide, by decide, fun _ => rfl, fun _ => rfl, by decide⟩, _, rfl⟩

theorem witness_ResetLoadsTheDecidedValues :
    (match loadParameters rawFixture with
     | .ok q => decide (q.cipherPool = ⟨Fixture.fix26t0, [Fixture.fix26t10]⟩)
     | .error _ => false) = true := by decide

theorem witness_OrderStringsParseOrDefault :
    "0N1N2N3N4".toList.length ≠ 10 ∧ "0N1N2N3N4NN".toList.length ≠ 10 ∧ "9R/r:N3X0N".toList.length = 10 ∧
    "9R/r:N3X0N".toList[2 * (0 : Slot).val]? = some '9' ∧ "9R/r:N3X0N".toList[2 * (0 : Slot).val + 1]? = some 'R' ∧
    "9R/r:N3X0N".toList[2 * (1 : Slot).val]? = some '/' ∧ "9R/r:N3X0N".toList[2 * (4 : Slot).val]? = some '0' ∧
    "9R/r:N3X0N".toList[2 * (4 : Slot).val + 1]? = some 'N' := by decide

theorem witness_ConfigureFallsBackToEntryZero :
    ((0 : Int) ≤ 0 ∧ (0 : Int) < 1 + Fixture.pool26.more.length) ∧ ((0 : Int) ≤ 10 ∧ (10 : Int) < 1 + Fixture.pool26.more.length) ∧
    (-1 : Int) < 0 ∧ 1 + Fixture.pool26.more.length ≤ (11 : Int) := by decide

theorem witness_LoadingAcceptsExactlyPermutations :
    Function.Injective (tableAt (#v[1, 0] : Vector (Fin 2) 2)) ∧ ¬ Function.Injective (tableAt (#v[1, 1] : Vector (Fin 2) 2)) := by decide

theorem witness_LockedUntilSetopOffPlainReset_held :
    21 ≤ (live .encrypt .operate .csp889 21).lockupCount ∧
    ∃ t, step ((live .encrypt .operate .csp889 21).present 0x10000000#32) = .next t ∧ t.lockupCount = 21 := ⟨by decide, _, rfl, by decide⟩

theorem witness_LockedUntilSetopOffPlainReset_released :
    ∃ t, step ((live .encrypt .operate .csp889 21).present 0x20000001#32) = .next t ∧ t.lockupCount = 0 := ⟨_, rfl, by decide⟩

theorem witness_IndexMovesOnlyBySetposIndex :
    ∃ t, step (State.reset.present 0x68527C41#32) = .next t ∧ t.I ≠ State.reset.I := ⟨_, rfl, by decide⟩

theorem witness_ConfigurationIsReadOnly :
    ∃ t, step ((live .encrypt .operate .csp889 0).present 0x10000026#32) = .next t := ⟨_, rfl⟩

theorem witness_SwitchesMoveOnlyBySwitchEvents_operating :
    ∃ t, step (State.reset.present 0x20000004#32) = .next t ∧ t.operatingSwitch ≠ State.reset.operatingSwitch := ⟨_, rfl, by decide⟩

theorem witness_SwitchesMoveOnlyBySwitchEvents_previous :
    ∃ t, step ((live .encrypt .operate .csp889 0).present 0x20000003#32) = .next t ∧
      t.previousOperatingSwitch ≠ (live .encrypt .operate .csp889 0).previousOperatingSwitch := ⟨_, rfl, by decide⟩

theorem witness_SwitchesMoveOnlyBySwitchEvents_zeroize :
    ∃ t, step (State.reset.present 0x30000000#32) = .next t ∧ t.zeroizeSwitch ≠ State.reset.zeroizeSwitch := ⟨_, rfl, by decide⟩

theorem witness_SwitchesMoveOnlyBySwitchEvents_variant :
    ∃ t, step (State.reset.present 0x40000000#32) = .next t ∧ t.machineVariant ≠ State.reset.machineVariant := ⟨_, rfl, by decide⟩

theorem witness_KeystrokeCountGrowsByKeysOnly :
    ∃ t, step ((live .plaintext .operate .csp889 0).present 0x1000001A#32) = .next t ∧ t.keystrokeCount = 0 + 1 := ⟨_, rfl, by decide⟩

theorem witness_TwentyFiveBlankPressesZeroize :
    KeyLive { live .encrypt .zeroize .csp2900 20 with C := Slots.fill 13, K := Slots.fill 15 } .encrypt .zeroize .csp2900 ∧
    KeyLive (live .decrypt .zeroize .csp889 0) .decrypt .zeroize .csp889 ∧ KeyLive (live .reset .zeroize .csp889 0) .reset .zeroize .csp889 := by decide

theorem witness_DecryptionRecoversTheTypedText :
    (∀ k ∈ [Key.letter 0, .letter 25, .spaceBar], isTrafficKey k = true) ∧
    KeyLive (live .encrypt .operate .csp889 20) .encrypt .operate .csp889 ∧
    KeyLive { live .decrypt .operate .csp889 20 with groupCount := 3 } .decrypt .operate .csp889 ∧
    SameTraffic (live .encrypt .operate .csp889 20) { live .decrypt .operate .csp889 20 with groupCount := 3 } := ⟨by decide, by decide, by decide, rfl, rfl, rfl, rfl, rfl, rfl⟩

end Sys2Proof.Tests
end

section
/-! Proofs of the statements of 00_scope.md: loading a wiring table (R7, U9), and one step (R11, R57). -/

namespace Sys2Proof.Machine

section WiringTables

variable {n : Nat}

@[simp] theorem tableAt_ofFn {α : Type} (f : Fin n → α) (i : Fin n) : tableAt (Vector.ofFn f) i = f i := by
  simp [tableAt]

/-- On an entry that `T` takes, `inverseTable T` reads some contact that `T` sends to that entry, so the default
in its definition is never read there. -/
theorem tableAt_inverseTable (T : Vector (Fin n) n) (i : Fin n) :
    tableAt T (tableAt (inverseTable T) (tableAt T i)) = tableAt T i := by
  have hsearch : ((List.finRange n).find? fun j => decide (tableAt T j = tableAt T i)).isSome :=
    List.find?_isSome.mpr ⟨i, List.mem_finRange i, by simp⟩
  obtain ⟨j, hj⟩ := Option.isSome_iff_exists.mp hsearch
  have hTj : tableAt T j = tableAt T i := by simpa using List.find?_some hj
  simpa [inverseTable, hj] using hTj

/-- The check that `loadWiring` runs is injectivity of the table (R7). -/
theorem leftInverse_inverseTable_iff (T : Vector (Fin n) n) :
    Function.LeftInverse (tableAt (inverseTable T)) (tableAt T) ↔ Function.Injective (tableAt T) :=
  ⟨Function.LeftInverse.injective, fun hinj i => hinj (tableAt_inverseTable T i)⟩

theorem loadWiring_of_injective {T : Vector (Fin n) n} (hinj : Function.Injective (tableAt T)) :
    ∃ w, loadWiring T = .ok w ∧ w.fwd = T :=
  ⟨_, dif_pos ((leftInverse_inverseTable_iff T).mpr hinj), rfl⟩

theorem loadWiring_of_not_injective {T : Vector (Fin n) n} (hinj : ¬ Function.Injective (tableAt T)) :
    loadWiring T = .error .nonBijectiveWiring :=
  dif_neg (mt (leftInverse_inverseTable_iff T).mp hinj)

end WiringTables

/-- Settles O53: the loader's check holds exactly of the injective tables. -/
theorem loadingAcceptsExactlyPermutations : Obligations.LoadingAcceptsExactlyPermutations :=
  fun _ _ => ⟨loadWiring_of_injective, loadWiring_of_not_injective⟩

theorem State.nextEvent_of_events {s : State} {w : Word} {rest : List Word} (h : s.events = w :: rest) :
    s.nextEvent = some w := by
  simp [State.nextEvent, h]

theorem State.popEvent_of_events {s : State} {w : Word} {rest : List Word} (h : s.events = w :: rest) :
    s.popEvent = { s with events := rest } := by
  simp [State.popEvent, h]

/-- Settles O5, by the case of `step` that takes a decoded word; it needs no well-formedness of the instruction. -/
theorem stepRunsTheDecodedInstruction : Obligations.StepRunsTheDecodedInstruction := by
  intro w rest i s hev hdec _
  rw [step_of_decode (State.nextEvent_of_events hev) hdec, State.popEvent_of_events hev]

end Sys2Proof.Machine
end

section
/-! Proofs of the statements of 10_state.md: the counters (R25, R26, R27), the index positions (R22) and the reset
values (R36). -/

namespace Sys2Proof.Machine

/-! ### What a step and a key event can do -/

theorem State.events_of_nextEvent {s : State} {w : Word} (h : s.nextEvent = some w) :
    ∃ rest, s.events = w :: rest :=
  (List.head?_eq_some_iff).mp h

/-- The states a step can answer: the state held (R230), a word consumed without effect (R176), or the case of the
decoded instruction (R11). -/
theorem step_next_cases {s t : State} (h : step s = .next t) :
    t = s ∨ t = s.popEvent.beginEvent ∨
      ∃ w rest i, s.events = w :: rest ∧ decode w = .ok i ∧ EventCase s.popEvent i t := by
  rcases step_cases s with ⟨-, hs⟩ | ⟨w, e, -, -, hs⟩ | ⟨w, i, u, hw, hd, hs, hc⟩
  · cases hs.symm.trans h
    exact .inl rfl
  · cases hs.symm.trans h
    exact .inr (.inl rfl)
  · cases hs.symm.trans h
    obtain ⟨rest, hrest⟩ := State.events_of_nextEvent hw
    exact .inr (.inr ⟨w, rest, i, hrest, hd, hc⟩)

/-- A key event writes cipher and control positions, counters and the output, nothing else. -/
theorem handleKey_frame (k : Key) (s : State) :
    (handleKey k s).I = s.I ∧ (handleKey k s).operatingSwitch = s.operatingSwitch ∧
      (handleKey k s).previousOperatingSwitch = s.previousOperatingSwitch ∧
      (handleKey k s).zeroizeSwitch = s.zeroizeSwitch ∧ (handleKey k s).machineVariant = s.machineVariant ∧
      (handleKey k s).config = s.config ∧ (handleKey k s).events = s.events := by
  rcases handleKey_cell k s with h | ⟨v, -, -, -, -, hcell⟩
  · simp [h]
  · exact hcell.frame

/-! ### The index positions -/

/-- Only SETPOS INDEX writes the index positions (R22). -/
theorem EventCase.I_eq_or_setposIndex {s t : State} {i : Instr} (h : EventCase s i t) :
    t.I = s.I ∨ ∃ a b c d e, i = .setposIndex a b c d e := by
  cases h with
  | key _ => exact .inl (handleKey_frame _ _).1
  | setop new _ => exact .inl (by simp [setOperatingSwitch_eq])
  | setposIndex a b c d e => exact .inr ⟨a, b, c, d, e, rfl⟩
  | nop | setz | setvar | zeroize | setposCipher | setposControl => exact .inl rfl

/-- Settles O55, by the cases of a step: only its SETPOS INDEX case writes `I`. -/
theorem indexMovesOnlyBySetposIndex : Obligations.IndexMovesOnlyBySetposIndex := by
  intro s t hstep hne
  rcases step_next_cases hstep with rfl | rfl | ⟨w, rest, i, hev, hdec, hcase⟩
  · exact absurd rfl hne
  · exact absurd rfl hne
  · rcases hcase.I_eq_or_setposIndex with hI | ⟨a, b, c, d, e, rfl⟩
    · exact absurd hI hne
    · exact ⟨w, rest, a, b, c, d, e, hev, hdec⟩

/-! ### The counters -/

/-- What a key that counts as a keystroke does to the counters and the output (R25, R26, R27). -/
structure CountsKeystroke (s t : State) : Prop where
  keystroke_succ : t.keystrokeCount = s.keystrokeCount + 1
  lockup_le_succ : t.lockupCount ≤ s.lockupCount + 1
  group_le_succ : t.groupCount ≤ s.groupCount + 1
  /-- only Encrypt and Decrypt count toward lockup (R203, R205, R206) -/
  lockup_le_or_cipher : t.lockupCount ≤ s.lockupCount ∨ s.operatingSwitch = .encrypt ∨ s.operatingSwitch = .decrypt
  /-- a letter, perhaps after its group space (R203) -/
  out_le_add_two : t.out.length ≤ s.out.length + 2

theorem stepCipherBank_lockupCount_le (s : State) (v : Variant) :
    (s.stepCipherBank v).lockupCount ≤ s.lockupCount := by
  rw [stepCipherBank_eq]
  dsimp only
  split
  · exact Nat.zero_le _
  · exact le_rfl

@[simp] theorem stepCipherBank_keystrokeCount (s : State) (v : Variant) :
    (s.stepCipherBank v).keystrokeCount = s.keystrokeCount := by rw [stepCipherBank_eq]

@[simp] theorem stepCipherBank_groupCount (s : State) (v : Variant) :
    (s.stepCipherBank v).groupCount = s.groupCount := by rw [stepCipherBank_eq]

@[simp] theorem stepCipherBank_out (s : State) (v : Variant) : (s.stepCipherBank v).out = s.out := by
  rw [stepCipherBank_eq]

/-- Every cell of the dispatch tables ignores the key or counts it (R190). -/
theorem KeyCell.eq_or_countsKeystroke {v : Variant} {s t : State} (h : KeyCell v s t) :
    t = s ∨ CountsKeystroke s t := by
  have hbank := stepCipherBank_lockupCount_le s v
  have hbank' := Nat.le_succ_of_le hbank
  cases h with
  | ignored => exact .inl rfl
  | zeroizeBlank =>
    unfold zeroizeBlankKey
    dsimp only
    split <;> exact .inr (by constructor <;> simp)
  | zeroizeBlankPlaintext => exact .inr (by constructor <;> simp [zeroizeBlankPlaintextKey])
  | resetDigit _ i => exact .inr (by constructor <;> simp [resetDigitKey, hbank, hbank'])
  | resetBlank => exact .inr (by constructor <;> simp [resetBlankKey, hbank, hbank'])
  | plaintext => exact .inr (by constructor <;> simp [plaintextKey])
  | encryptBlank => exact .inr (by constructor <;> simp [encryptBlankKey, advance_eq, hbank, hbank'])
  | encryptLetter ho x =>
    unfold encryptLetterKey State.cycle
    dsimp only
    split <;> exact .inr (by constructor <;> simp [advance_eq, ho, hbank])
  | decryptBlank ho => exact .inr (by constructor <;> simp [decryptBlankKey, advance_eq, ho, hbank])
  | decryptLetter ho x =>
    exact .inr (by constructor <;> simp [decryptLetterKey, State.cycle, advance_eq, ho, hbank])

/-- A key leaves the state as it is, or it passed the gating rule and counts as a keystroke (R190). -/
theorem handleKey_eq_or_countsKeystroke (k : Key) (s : State) :
    handleKey k s = s ∨
      s.operatingSwitch ≠ .off ∧ s.lockupCount < 21 ∧ CountsKeystroke s (handleKey k s) := by
  rcases handleKey_cell k s with h | ⟨v, -, hop, -, hlock, hcell⟩
  · exact .inl h
  · exact hcell.eq_or_countsKeystroke.imp_right fun hcount => ⟨hop, hlock, hcount⟩

/-- Only a KEY row writes `keystrokeCount`, and it adds 1 (R26). -/
theorem EventCase.keystrokeCount_eq_or_succ {s t : State} {i : Instr} (h : EventCase s i t) :
    t.keystrokeCount = s.keystrokeCount ∨
      (t.keystrokeCount = s.keystrokeCount + 1 ∧ ∃ k, i.key? = some k) := by
  cases h with
  | @key _ k hk =>
    rcases handleKey_eq_or_countsKeystroke k s.beginEvent with hsame | ⟨-, -, hcount⟩
    · exact .inl (by rw [hsame, State.beginEvent_keystrokeCount])
    · exact .inr ⟨hcount.keystroke_succ, k, hk⟩
  | setop new _ => exact .inl (by simp [setOperatingSwitch_eq])
  | nop | setz | setvar | zeroize | setposCipher | setposControl | setposIndex => exact .inl rfl

/-- Settles O58, by the cases of a step: only its key case writes `keystrokeCount`. -/
theorem keystrokeCountGrowsByKeysOnly : Obligations.KeystrokeCountGrowsByKeysOnly := by
  intro s t hstep
  rcases step_next_cases hstep with rfl | rfl | ⟨w, rest, i, hev, hdec, hcase⟩
  · exact .inl rfl
  · exact .inl rfl
  · exact hcase.keystrokeCount_eq_or_succ.imp_right fun ⟨hsucc, k, hk⟩ => ⟨hsucc, w, rest, i, k, hev, hdec, hk⟩

/-! ### The counter invariant -/

/-- The invariant reads the three counters, the operating switch and the length of the output. -/
theorem CountersOk.of_eq {s t : State} (h : CountersOk s) (hlock : t.lockupCount = s.lockupCount)
    (hkeys : t.keystrokeCount = s.keystrokeCount) (hgroup : t.groupCount = s.groupCount)
    (hop : t.operatingSwitch = s.operatingSwitch) (hout : t.out.length ≤ 4) : CountersOk t := by
  obtain ⟨hlimit, hlk, hgk, hlockZero, hgroupZero, -⟩ := h
  exact ⟨by omega, by omega, by omega, by rwa [hop, hlock], by rwa [hop, hgroup], hout⟩

/-- A key keeps the invariant at the start of an event. `lockupCount` reaches 21 at most, because a block locked at
21 is gated (R190, R255). -/
theorem CountersOk.handleKey {s : State} (h : CountersOk s) (hout : s.out = []) (k : Key) :
    CountersOk (handleKey k s) := by
  rcases handleKey_eq_or_countsKeystroke k s with hsame | ⟨hop, hlock, hcount⟩
  · rwa [hsame]
  · obtain ⟨-, hopEq, -⟩ := handleKey_frame k s
    obtain ⟨-, hlk, hgk, hlockZero, -, -⟩ := h
    obtain ⟨hsucc, hlockLe, hgroupLe, hcipher, houtLe⟩ := hcount
    refine ⟨by omega, by omega, by omega, fun hoff => ?_, fun hoff => ?_, ?_⟩
    · rw [hopEq] at hoff
      rcases hcipher with hle | henc | hdec
      · exact Nat.le_zero.mp (hlockZero hoff ▸ hle)
      · simp [henc] at hoff
      · simp [hdec] at hoff
    · exact absurd (hopEq ▸ hoff) hop
    · simp only [hout, List.length_nil] at houtLe
      omega

theorem State.paddingCount_le_four (s : State) : s.paddingCount ≤ 4 :=
  Nat.le_of_lt_succ (Nat.mod_lt _ (by decide))

/-- A SETOP keeps the invariant at the start of an event: it zeroes what the new position asks to be 0, and pads with
at most 4 spaces (R171). -/
theorem CountersOk.setOperatingSwitch {s : State} (h : CountersOk s) (hout : s.out = []) (new : OperatingSwitch) :
    CountersOk (setOperatingSwitch new s) := by
  obtain ⟨hlimit, hlk, hgk, -, -, -⟩ := h
  rw [setOperatingSwitch_eq]
  refine ⟨?_, ?_, ?_, fun hoff => if_pos hoff, fun hoff => if_pos (.inl hoff), ?_⟩
  · dsimp only; split <;> omega
  · dsimp only; split <;> omega
  · dsimp only; split <;> omega
  · dsimp only
    rw [hout, List.nil_append]
    split
    · simpa using s.paddingCount_le_four
    · simp

/-- Every instruction keeps the invariant. -/
theorem CountersOk.eventCase {s t : State} {i : Instr} (h : CountersOk s) (hcase : EventCase s i t) :
    CountersOk t := by
  have hbegin : CountersOk s.beginEvent := h.of_eq rfl rfl rfl rfl (Nat.zero_le _)
  cases hcase with
  | key _ => exact hbegin.handleKey rfl _
  | setop new _ => exact hbegin.setOperatingSwitch rfl new
  | nop | setz | setvar | zeroize | setposCipher | setposControl | setposIndex =>
    exact hbegin.of_eq rfl rfl rfl rfl hbegin.out_le_four

/-- Settles O47, by the cases of a step: the decoded instruction keeps the invariant, and a reserved word acts as
`NOP` does. -/
theorem stepKeepsCountersOk : Obligations.StepKeepsCountersOk := by
  intro s t h hstep
  have hpop : CountersOk s.popEvent := h.of_eq rfl rfl rfl rfl h.out_le_four
  rcases step_next_cases hstep with rfl | rfl | ⟨w, rest, i, -, -, hcase⟩
  · exact h
  · exact hpop.eventCase .nop
  · exact hpop.eventCase hcase

/-- The decided reset values meet the invariant: the counters are 0 and nothing is emitted (R36). -/
theorem CountersOk.resetWith (cfg : Configuration) : CountersOk (State.resetWith cfg) where
  lockup_le_limit := Nat.zero_le _
  lockup_le_keystrokes := le_rfl
  group_le_keystrokes := le_rfl
  lockup_zero _ := rfl
  group_zero _ := rfl
  out_le_four := Nat.zero_le _

/-- Settles O48: `State.reset` is the reset state of one configuration. -/
theorem resetStateHasCountersOk : Obligations.ResetStateHasCountersOk :=
  ⟨CountersOk.resetWith, CountersOk.resetWith _⟩

end Sys2Proof.Machine
end

section
/-! Proof of the statement of 20_memory.md: the configuration is read-only (R59, R24), and a step takes exactly the
event presented. -/

namespace Sys2Proof.Machine

/-- With nothing on the event port, no word is pending (R230). -/
theorem State.events_eq_nil_of_nextEvent {s : State} (h : s.nextEvent = none) : s.events = [] :=
  List.head?_eq_none_iff.mp h

/-- An instruction reads the configuration and leaves it (R59), and it takes no pending word: the fetch alone does. -/
theorem EventCase.config_events_eq {s t : State} {i : Instr} (h : EventCase s i t) :
    t.config = s.config ∧ t.events = s.events := by
  cases h with
  | @key _ k _ =>
    obtain ⟨-, -, -, -, -, hconfig, hevents⟩ := handleKey_frame k s.beginEvent
    exact ⟨hconfig, hevents⟩
  | setop new _ => simp [setOperatingSwitch_eq]
  | nop | setz | setvar | zeroize | setposCipher | setposControl | setposIndex => exact ⟨rfl, rfl⟩

/-- Settles O56, by the cases of a step: the idle step has no word to take, and in the other two only the fetch
writes the pending words. -/
theorem configurationIsReadOnly : Obligations.ConfigurationIsReadOnly := by
  intro s t hstep
  rcases step_cases s with ⟨hidle, hs⟩ | ⟨w, e, -, -, hs⟩ | ⟨w, i, u, -, -, hs, hcase⟩
  · cases hs.symm.trans hstep
    simp [State.events_eq_nil_of_nextEvent hidle]
  · cases hs.symm.trans hstep
    exact ⟨rfl, rfl⟩
  · cases hs.symm.trans hstep
    exact hcase.config_events_eq

end Sys2Proof.Machine
end

section
/-! Proofs of the statements of 30_encoding.md: the decoder and the encoder are inverse to each other, the decoder
rejects exactly the reserved words (R79, R80), and the KEY rows follow the key codes (R72, R84).
The events of every opcode but SETPOS are read from one list of rows by the payload taken as a number; a SETPOS
carries five symbol codes. -/

namespace Sys2Proof

open Sys2Proof.Machine

/-! ### Fields -/

/-- A field is a number of its width (R9). -/
theorem evBits_lt (w : Word) (hi lo : Nat) : evBits w hi lo < 2 ^ (hi + 1 - lo) :=
  BitVec.isLt _

/-- The high bits of a payload, as a quotient of it. -/
theorem evBits_payload_high (w : Word) {lo : Nat} (hlo : lo ≤ 28) :
    evBits w 27 lo = evBits w 27 0 / 2 ^ lo := by
  have hpow : 2 ^ (27 + 1) = 2 ^ lo * 2 ^ (27 + 1 - lo) := by rw [← Nat.pow_add, Nat.add_sub_of_le hlo]
  rw [evBits_eq, evBits_eq, Nat.pow_zero, Nat.div_one, Nat.sub_zero, hpow, Nat.mod_mul_right_div_self]

/-- The low bits of a payload, as a remainder of it. -/
theorem evBits_payload_low (w : Word) {hi : Nat} (hhi : hi ≤ 27) :
    evBits w hi 0 = evBits w 27 0 % 2 ^ (hi + 1) := by
  rw [evBits_eq, evBits_eq, Nat.pow_zero, Nat.div_one, Nat.sub_zero, Nat.sub_zero,
    Nat.mod_mod_of_dvd _ (Nat.pow_dvd_pow 2 (Nat.succ_le_succ hhi))]

/-! ### The events without an operand -/

/-- The rows of an opcode whose events carry no operand, in the order of their payloads (R71 to R76). SETPOS and the
reserved opcodes have none. -/
def codeRows (opcode : Nat) : List Instr :=
  match opcode with
  | 0 => [.nop]
  | 1 => keyInstrs
  | 2 => setopInstrs
  | 3 => setzInstrs
  | 4 => setvarInstrs
  | 5 => [.zeroize]
  | _ => []

theorem codeRows_of_six_le {opcode : Nat} (h : 6 ≤ opcode) : codeRows opcode = [] := by
  match opcode, h with
  | n + 6, _ => rfl

/-- The number of payloads that an opcode without operand gives a meaning (R71 to R76). -/
theorem codeRows_length (opcode : Nat) : (codeRows opcode).length =
    if opcode = 0 ∨ opcode = 5 then 1 else if opcode = 1 then 40 else if opcode = 2 then 5
    else if opcode = 3 ∨ opcode = 4 then 3 else 0 := by
  match opcode with
  | 0 | 1 | 2 | 3 | 4 | 5 => rfl
  | n + 6 => simp [codeRows]

/-- A row stands in the list at the payload of its word (R71 to R76). -/
theorem encode_codeRows {opcode payload : Nat} {i : Instr} (h : (codeRows opcode)[payload]? = some i) :
    i.wellFormed = true ∧ (encode i).toNat = opcode * 2 ^ 28 + payload := by
  have table : ∀ op < 6, ∀ c, ∀ hc : c < (codeRows op).length,
      (codeRows op)[c].wellFormed = true ∧ (encode (codeRows op)[c]).toNat = op * 2 ^ 28 + c := by decide
  obtain ⟨hlen, rfl⟩ := List.getElem?_eq_some_iff.mp h
  have hop : opcode < 6 := by
    by_contra hge
    simp [codeRows_of_six_le (Nat.le_of_not_lt hge)] at hlen
  exact table opcode hop payload hlen

/-- A code field at the low end of a payload whose other bits must be 0 reads the list at the payload (R71, R79). -/
theorem decodeCode_eq_ok_iff_payload (w : Word) (rows : List Instr) {hi : Nat} (hhi : hi ≤ 27)
    (hlen : rows.length ≤ 2 ^ (hi + 1)) (why : Reserved) (i : Instr) :
    (if evBits w 27 (hi + 1) = 0 then decodeCode rows (evBits w hi 0) why else .error .payload) = .ok i ↔
      rows[evBits w 27 0]? = some i := by
  rw [evBits_payload_high w (Nat.succ_le_succ hhi), evBits_payload_low w hhi]
  by_cases hsmall : evBits w 27 0 < 2 ^ (hi + 1)
  · rw [if_pos (Nat.div_eq_of_lt hsmall), Nat.mod_eq_of_lt hsmall, decodeCode_eq_ok_iff]
  · have hge := Nat.le_of_not_lt hsmall
    rw [if_neg (Nat.div_pos hge (Nat.two_pow_pos _)).ne', List.getElem?_eq_none (hlen.trans hge)]
    simp

/-- An event that is its opcode alone stands for its one row where the payload is 0 (R71, R76). -/
theorem payloadZero_eq_ok_iff (w : Word) (row i : Instr) :
    (if evBits w 27 0 = 0 then .ok row else .error Reserved.payload) = Except.ok i ↔
      [row][evBits w 27 0]? = some i := by
  cases evBits w 27 0 <;> simp

/-- Off the SETPOS opcode, the decoder reads the list of the opcode at the payload. -/
theorem decode_eq_ok_iff_codeRows {w : Word} (h : evBits w 31 28 ≠ 6) (i : Instr) :
    decode w = .ok i ↔ (codeRows (evBits w 31 28))[evBits w 27 0]? = some i := by
  unfold decode
  split
  case h_1 h0 => rw [h0]; exact payloadZero_eq_ok_iff w .nop i
  case h_2 h1 => rw [h1]; exact decodeCode_eq_ok_iff_payload w keyInstrs (by decide) (by decide) _ i
  case h_3 h2 => rw [h2]; exact decodeCode_eq_ok_iff_payload w setopInstrs (by decide) (by decide) _ i
  case h_4 h3 => rw [h3]; exact decodeCode_eq_ok_iff_payload w setzInstrs (by decide) (by decide) _ i
  case h_5 h4 => rw [h4]; exact decodeCode_eq_ok_iff_payload w setvarInstrs (by decide) (by decide) _ i
  case h_6 h5 => rw [h5]; exact payloadZero_eq_ok_iff w .zeroize i
  case h_7 h6 => exact absurd h6 h
  case h_8 h0 h1 h2 h3 h4 h5 _ =>
    simp only [imp_false] at h0 h1 h2 h3 h4 h5
    rw [codeRows_of_six_le (by omega)]; simp

/-! ### SETPOS -/

/-- The SETPOS arm of the decoder (R77). -/
theorem decode_of_setpos {w : Word} (h : evBits w 31 28 = 6) :
    decode w = if evBits w 25 25 = 0 then
      decodeSetpos (evBits w 27 26) (evBits w 4 0) (evBits w 9 5) (evBits w 14 10) (evBits w 19 15) (evBits w 24 20)
    else .error .payload := by
  simp only [decode, h]

/-- A bank code names a row exactly when it is not the reserved code 3 (R77, R79), and that row's word carries the
bank code and the symbol codes. -/
theorem decodeSetpos_cases (bank a b c d e : Nat) :
    (3 ≤ bank ∧ decodeSetpos bank a b c d e = .error .bankCode) ∨
      (bank < 3 ∧ ∃ i, decodeSetpos bank a b c d e = .ok i ∧ encode i = encodeSetpos bank a b c d e ∧
        (i.wellFormed = true ↔ a < 32 ∧ b < 32 ∧ c < 32 ∧ d < 32 ∧ e < 32)) := by
  match bank with
  | 0 => exact .inr ⟨by decide, _, rfl, rfl, by simp [Instr.wellFormed, symbolOk, and_assoc]⟩
  | 1 => exact .inr ⟨by decide, _, rfl, rfl, by simp [Instr.wellFormed, symbolOk, and_assoc]⟩
  | 2 => exact .inr ⟨by decide, _, rfl, rfl, by simp [Instr.wellFormed, symbolOk, and_assoc]⟩
  | n + 3 => exact .inl ⟨by omega, rfl⟩

/-- The five symbol codes and the bank code come back from their fields of the word (R77). -/
theorem decode_encodeSetpos {bank a b c d e : Nat} (hbank : bank < 4)
    (hsym : a < 32 ∧ b < 32 ∧ c < 32 ∧ d < 32 ∧ e < 32) :
    decode (encodeSetpos bank a b c d e) = decodeSetpos bank a b c d e := by
  obtain ⟨ha, hb, hc, hd, he⟩ := hsym
  have field (hi lo : Nat) := evBits_eq (encodeSetpos bank a b c d e) hi lo
  simp only [encodeSetpos_toNat] at field
  rw [decode_of_setpos (by rw [field]; omega), if_pos (by rw [field]; omega)]
  congr 1 <;> rw [field] <;> omega

/-- The fields of a SETPOS word with bit 25 clear make up the whole word (R77). -/
theorem encodeSetpos_evBits {w : Word} (hop : evBits w 31 28 = 6) (hzero : evBits w 25 25 = 0) :
    encodeSetpos (evBits w 27 26) (evBits w 4 0) (evBits w 9 5) (evBits w 14 10) (evBits w 19 15) (evBits w 24 20)
      = w := by
  apply BitVec.eq_of_toNat_eq
  rw [encodeSetpos_toNat]
  simp only [evBits_eq] at hop hzero ⊢
  omega

/-- A SETPOS word is reserved when bit 25 is 1 or its bank code is 3 (R79). -/
theorem reservedWord_iff_setpos {w : Word} (h : evBits w 31 28 = 6) :
    ReservedWord w ↔ (evBits w 25 25 = 0 → 3 ≤ evBits w 27 26) := by
  unfold ReservedWord
  simp only [evBits_eq] at h ⊢
  omega

/-- What a SETPOS word decodes to: it is reserved and rejected, or it is the word of a well-formed row (R77, R79). -/
theorem decode_cases_of_setpos {w : Word} (hop : evBits w 31 28 = 6) :
    (ReservedWord w ∧ ∃ e, decode w = .error e) ∨
      (¬ ReservedWord w ∧ ∃ i, decode w = .ok i ∧ i.wellFormed = true ∧ encode i = w) := by
  rw [reservedWord_iff_setpos hop, decode_of_setpos hop]
  split
  case isFalse hbit => exact .inl ⟨fun hzero => absurd hzero hbit, _, rfl⟩
  case isTrue hzero =>
    rcases decodeSetpos_cases (evBits w 27 26) (evBits w 4 0) (evBits w 9 5) (evBits w 14 10) (evBits w 19 15)
      (evBits w 24 20) with ⟨hbank, herr⟩ | ⟨hbank, i, hok, henc, hwf⟩
    · exact .inl ⟨fun _ => hbank, _, herr⟩
    · refine .inr ⟨fun hres => absurd (hres hzero) (Nat.not_le_of_lt hbank), i, hok, hwf.mpr ?_,
        henc.trans (encodeSetpos_evBits hop hzero)⟩
      exact ⟨evBits_lt .., evBits_lt .., evBits_lt .., evBits_lt .., evBits_lt ..⟩

/-! ### The round trips -/

/-- Settles O1: the rows without an operand are closed words, and a SETPOS gives its fields back. -/
theorem decodeOfEncodeIsTheInstruction : Obligations.DecodeOfEncodeIsTheInstruction := by
  intro i hwf
  cases i with
  | setposCipher | setposControl | setposIndex =>
    simp only [Instr.wellFormed, symbolOk, Bool.and_eq_true, decide_eq_true_eq, and_assoc] at hwf
    exact decode_encodeSetpos (by decide) hwf
  | _ => rfl

/-- Settles O2: a word is its opcode and its payload, and a SETPOS payload is its fields. -/
theorem encodeOfDecodeIsTheWord : Obligations.EncodeOfDecodeIsTheWord := by
  intro w i hdec
  by_cases hop : evBits w 31 28 = 6
  · rcases decode_cases_of_setpos hop with ⟨-, e, herr⟩ | ⟨-, j, hok, hword⟩
    · cases herr.symm.trans hdec
    · cases hok.symm.trans hdec
      exact hword
  · obtain ⟨hwf, henc⟩ := encode_codeRows ((decode_eq_ok_iff_codeRows hop i).mp hdec)
    refine ⟨hwf, BitVec.eq_of_toNat_eq (henc.trans ?_)⟩
    simp only [evBits_eq]
    omega

/-! ### The reserved words -/

/-- A word is rejected when it decodes to no instruction. -/
theorem rejected_iff_ne_ok (x : Except Reserved Instr) : (∃ e, x = .error e) ↔ ∀ i, x ≠ .ok i := by
  cases x <;> simp

/-- Off the SETPOS opcode, a word is reserved when its payload is past the end of the opcode's list (R79). -/
theorem reservedWord_iff_codeRows {w : Word} (h : evBits w 31 28 ≠ 6) :
    ReservedWord w ↔ (codeRows (evBits w 31 28)).length ≤ evBits w 27 0 := by
  rw [codeRows_length, ReservedWord, evBits_payload_high w (lo := 6) (by decide),
    evBits_payload_low w (hi := 5) (by decide), evBits_payload_high w (lo := 3) (by decide),
    evBits_payload_low w (hi := 2) (by decide), evBits_payload_high w (lo := 2) (by decide),
    evBits_payload_low w (hi := 1) (by decide)]
  generalize evBits w 31 28 = opcode at h ⊢
  generalize evBits w 27 0 = payload
  match opcode, h with
  | 0, _ | 1, _ | 2, _ | 3, _ | 4, _ | 5, _ => grind
  | 6, h => exact absurd rfl h
  | n + 7, _ => simp

/-- Settles O3, by the opcode: a payload past the end of a list, or a SETPOS word with a bad bit or bank. -/
theorem reservedWordsAreExactlyTheRejected : Obligations.ReservedWordsAreExactlyTheRejected := by
  intro w
  by_cases hop : evBits w 31 28 = 6
  · rcases decode_cases_of_setpos hop with ⟨hres, hrej⟩ | ⟨hres, i, hok, -⟩
    · exact iff_of_true hrej hres
    · exact iff_of_false (fun ⟨e, herr⟩ => nomatch herr.symm.trans hok) hres
  · rw [reservedWord_iff_codeRows hop, rejected_iff_ne_ok, ← List.getElem?_eq_none_iff,
      Option.eq_none_iff_forall_ne_some]
    simp only [ne_eq, decode_eq_ok_iff_codeRows hop]

/-! ### The key codes -/

/-- The 40 key codes are 0..39 (R72), so each names a KEY row. -/
theorem keyInstrs_getElem?_code (k : Key) : keyInstrs[k.code]? = some k.instr := by
  have hlt : k.code < keyInstrs.length := by
    have hlen : keyInstrs.length = 40 := rfl
    cases k <;> simp only [Key.code, hlen] <;> omega
  simp [Key.instr, hlt]

theorem encode_keyInstr_toNat (k : Key) : (encode k.instr).toNat = 0x10000000 + k.code :=
  (encode_codeRows (opcode := 1) (keyInstrs_getElem?_code k)).2

theorem keyInstr_key? (k : Key) : k.instr.key? = some k := by
  cases k with
  | letter i => revert i; decide
  | digit d => revert d; decide
  | dash | blank | spaceBar | rpt => rfl

/-- Two KEY rows do not stand for one key. -/
theorem eq_keyInstr_of_key? {i : Instr} {k : Key} (h : i.key? = some k) : i = k.instr := by
  cases i <;> cases h <;> rfl

/-- Settles O8: a word decodes to one instruction, so only the KEY row of `k` has the word of its key code. -/
theorem keyRowsFollowTheKeyCodes : Obligations.KeyRowsFollowTheKeyCodes := by
  refine ⟨fun i k hwf => ⟨fun hkey => ?_, fun hword => ?_⟩, keyInstr_key?⟩
  · rw [eq_keyInstr_of_key? hkey, encode_keyInstr_toNat]
  · have hsame : encode i = encode k.instr := BitVec.eq_of_toNat_eq (hword.trans (encode_keyInstr_toNat k).symm)
    have hk : k.instr.wellFormed = true := (encode_codeRows (opcode := 1) (keyInstrs_getElem?_code k)).1
    have hdec := decodeOfEncodeIsTheInstruction i hwf
    rw [hsame, decodeOfEncodeIsTheInstruction _ hk] at hdec
    rw [← Except.ok.inj hdec, keyInstr_key?]

end Sys2Proof
end

section
/-! Proofs of the statements of 40_rotor_ops.md: the step of one rotor (R101, R102), the raw forms (R103, R104) and
the two passes (R105 to R107). Positions and contacts of a rotor are added and subtracted in the group `Fin n`. -/

namespace Sys2Proof.Machine

/-! ### The step -/

/-- The effective increment of `step(r, clockwise)`: `-1` when `clockwise XOR reversed`, else `+1` (R101). -/
def Rotor.increment [NeZero n] (r : Rotor n) (clockwise : Bool) : Fin n :=
  if clockwise ^^ r.cfg.rev then -1 else 1

theorem Rotor.stepped_eq_pos_add_increment [NeZero n] (r : Rotor n) (clockwise : Bool) :
    r.stepped clockwise = r.pos + r.increment clockwise := by
  unfold Rotor.stepped Rotor.increment
  split
  · exact sub_eq_add_neg r.pos 1
  · rfl

theorem Rotor.rotCW_eq_pos_add [NeZero n] (r : Rotor n) : r.rotCW = r.pos + r.increment true :=
  r.stepped_eq_pos_add_increment true

/-- The two directions have opposite increments in either orientation (R102). -/
theorem Rotor.rotCCW_eq_pos_sub [NeZero n] (r : Rotor n) : r.rotCCW = r.pos - r.increment true := by
  have hopposite : r.increment false = -r.increment true := by
    cases hrev : r.cfg.rev <;> simp [Rotor.increment, hrev]
  rw [Rotor.rotCCW, Rotor.stepped_eq_pos_add_increment, hopposite, sub_eq_add_neg]

/-- Settles O11: both directions translate by one fixed increment, and `n` times any element of `Fin n` is 0. -/
theorem rotationsUndoEachOther : Obligations.RotationsUndoEachOther := by
  intro n _ r
  have hcw (p : Fin n) : ({ r with pos := p } : Rotor n).rotCW = p + r.increment true :=
    Rotor.rotCW_eq_pos_add _
  have hccw (p : Fin n) : ({ r with pos := p } : Rotor n).rotCCW = p - r.increment true :=
    Rotor.rotCCW_eq_pos_sub _
  have hturn : n • r.increment true = 0 := by
    simpa using card_nsmul_eq_zero (x := r.increment true)
  refine ⟨?_, ?_, ?_⟩
  · rw [hccw, r.rotCW_eq_pos_add, add_sub_cancel_right]
  · rw [hcw, r.rotCCW_eq_pos_sub, sub_add_cancel]
  · simp only [hcw, add_right_iterate]
    rw [hturn, add_zero]

/-- `Fin n` subtraction in the spelling of the source formulas, `(a - b + N) mod N` (R103, R104). -/
theorem val_sub_eq_mod (a b : Fin n) : (a - b).val = (a.val + n - b.val) % n := by
  rw [Fin.sub_def]
  exact congrArg (· % n) (by omega)

/-- Settles O10. Only for `n = 1` is the `1` of `Fin n` not the number 1, and there every position is 0. -/
theorem rotorStepDirection : Obligations.RotorStepDirection := by
  intro n _ r clockwise
  have hdown : (r.pos - 1).val = (r.pos.val + n - 1) % n := by
    rcases (NeZero.one_le (n := n)).eq_or_lt with rfl | hn
    · simp
    · rw [val_sub_eq_mod, Fin.val_one', Nat.mod_eq_of_lt hn]
  have hup : (r.pos + 1).val = (r.pos.val + 1) % n := by
    rw [Fin.val_add, Fin.val_one', Nat.add_mod_mod]
  unfold Rotor.stepped
  split
  · exact hdown
  · exact hup

/-! ### The raw forms -/

/-- Settles O12: the entries read are those at `x + pos` and at `pos - x`. -/
theorem rawFormsValues : Obligations.RawFormsValues := by
  intro n r T x a b ha hb
  have hentryA : x + r.pos = a := Fin.ext ((Fin.val_add x r.pos).trans ha.symm)
  have hentryB : r.pos - x = b := Fin.ext ((val_sub_eq_mod r.pos x).trans hb.symm)
  exact ⟨by rw [rawA, hentryA, val_sub_eq_mod], by rw [rawB, hentryB, val_sub_eq_mod]⟩

/-- Over an identity table the offset that `rawA` adds is taken away again. -/
theorem rawA_of_identity (r : Rotor n) {T : Vector (Fin n) n} (hT : ∀ j, tableAt T j = j) (x : Fin n) :
    rawA r T x = x := by
  have : NeZero n := ⟨x.pos.ne'⟩
  rw [rawA, hT, add_sub_cancel_right]

/-- Over an identity table `rawB` reflects twice about the position. -/
theorem rawB_of_identity (r : Rotor n) {T : Vector (Fin n) n} (hT : ∀ j, tableAt T j = j) (x : Fin n) :
    rawB r T x = x := by
  have : NeZero n := ⟨x.pos.ne'⟩
  rw [rawB, hT, sub_sub_cancel]

/-- `rawA` over a left inverse of `T` undoes `rawA` over `T`: the offsets between the two reads cancel. -/
theorem rawA_leftInverse (r : Rotor n) {T U : Vector (Fin n) n}
    (hUT : Function.LeftInverse (tableAt U) (tableAt T)) : Function.LeftInverse (rawA r U) (rawA r T) := by
  intro x
  have : NeZero n := ⟨x.pos.ne'⟩
  rw [rawA, rawA, sub_add_cancel, hUT, add_sub_cancel_right]

/-- `rawB` over a left inverse of `T` undoes `rawB` over `T`: the reflections between the two reads cancel. -/
theorem rawB_leftInverse (r : Rotor n) {T U : Vector (Fin n) n}
    (hUT : Function.LeftInverse (tableAt U) (tableAt T)) : Function.LeftInverse (rawB r U) (rawB r T) := by
  intro x
  have : NeZero n := ⟨x.pos.ne'⟩
  rw [rawB, rawB, sub_sub_cancel, hUT, sub_sub_cancel]

/-! ### The passes -/

theorem passPrimary_of_reversed {r : Rotor n} (h : r.cfg.rev = true) (x : Fin n) :
    passPrimary r x = rawB r r.cfg.wiring.bwd x := by
  simp [passPrimary, h, Rotor.R]

theorem passPrimary_of_normal {r : Rotor n} (h : r.cfg.rev = false) (x : Fin n) :
    passPrimary r x = rawA r r.cfg.wiring.fwd x := by
  simp [passPrimary, h, Rotor.L]

theorem passSecondary_of_reversed {r : Rotor n} (h : r.cfg.rev = true) (x : Fin n) :
    passSecondary r x = rawB r r.cfg.wiring.fwd x := by
  simp [passSecondary, h, Rotor.L]

theorem passSecondary_of_normal {r : Rotor n} (h : r.cfg.rev = false) (x : Fin n) :
    passSecondary r x = rawA r r.cfg.wiring.bwd x := by
  simp [passSecondary, h, Rotor.R]

/-- A wiring whose forward table is the identity has the identity as its backward table (R7). -/
theorem wiring_bwd_of_fwd_identity {w : Wiring n} (h : ∀ j, tableAt w.fwd j = j) (j : Fin n) :
    tableAt w.bwd j = j := by
  simpa only [h] using w.bwd_fwd j

/-- A primary pass through an identity wiring is the identity in both orientations (R105). -/
theorem passPrimary_of_identity {r : Rotor n} (h : ∀ j, tableAt r.cfg.wiring.fwd j = j) (x : Fin n) :
    passPrimary r x = x := by
  cases hrev : r.cfg.rev with
  | true => rw [passPrimary_of_reversed hrev, rawB_of_identity r (wiring_bwd_of_fwd_identity h)]
  | false => rw [passPrimary_of_normal hrev, rawA_of_identity r h]

/-- Settles O13, clause by clause from the equation of each pass in each orientation. -/
theorem passesSelectTableAndForm : Obligations.PassesSelectTableAndForm := fun _ _ x =>
  ⟨fun hrev => ⟨passPrimary_of_reversed hrev x, passSecondary_of_reversed hrev x⟩,
    fun hrev => ⟨passPrimary_of_normal hrev x, passSecondary_of_normal hrev x⟩,
    fun hid => passPrimary_of_identity hid x⟩

/-- The secondary pass undoes the primary one (R107). -/
theorem passSecondary_passPrimary (r : Rotor n) (x : Fin n) : passSecondary r (passPrimary r x) = x := by
  cases hrev : r.cfg.rev with
  | true =>
    rw [passPrimary_of_reversed hrev, passSecondary_of_reversed hrev]
    exact rawB_leftInverse r (wiring_fwd_bwd r.cfg.wiring) x
  | false =>
    rw [passPrimary_of_normal hrev, passSecondary_of_normal hrev]
    exact rawA_leftInverse r r.cfg.wiring.bwd_fwd x

/-- The primary pass undoes the secondary one (R107). -/
theorem passPrimary_passSecondary (r : Rotor n) (x : Fin n) : passPrimary r (passSecondary r x) = x := by
  cases hrev : r.cfg.rev with
  | true =>
    rw [passSecondary_of_reversed hrev, passPrimary_of_reversed hrev]
    exact rawB_leftInverse r r.cfg.wiring.bwd_fwd x
  | false =>
    rw [passSecondary_of_normal hrev, passPrimary_of_normal hrev]
    exact rawA_leftInverse r (wiring_fwd_bwd r.cfg.wiring) x

/-- Settles O14: in either orientation the two passes use one raw form over mutually inverse tables. -/
theorem passesAreInverse : Obligations.PassesAreInverse :=
  fun _ r x => ⟨passSecondary_passPrimary r x, passPrimary_passSecondary r x⟩

end Sys2Proof.Machine
end

section
/-! Proofs of the statements of 41_bank_ops.md: the four traversals (R120 to R123) and the display text (R124). -/

namespace Sys2Proof

@[simp] theorem Slots.length_toList (b : Slots α) : b.toList.length = 5 := rfl

theorem Slots.getElem?_toList (b : Slots α) (j : Slot) : b.toList[j.val]? = some (b.get j) := by
  fin_cases j <;> rfl

theorem Slots.getElem?_map_toList (f : α → β) (b : Slots α) (j : Slot) :
    (b.toList.map f)[j.val]? = some (f (b.get j)) := by
  rw [List.getElem?_map, b.getElem?_toList, Option.map_some]

end Sys2Proof

namespace Sys2Proof.Machine

/-! ### The traversals -/

theorem foldl_slotsUp (f : α → Slot → α) (x : α) :
    slotsUp.foldl f x = f (f (f (f (f x 0) 1) 2) 3) 4 := rfl

theorem foldl_slotsDown (f : α → Slot → α) (x : α) :
    slotsDown.foldl f x = f (f (f (f (f x 4) 3) 2) 1) 0 := rfl

/-- Settles O15: each traversal is a loop over the slots, upwards or downwards. -/
theorem traversalsChainThePasses : Obligations.TraversalsChainThePasses := fun _ _ _ =>
  ⟨foldl_slotsUp _ _, foldl_slotsDown _ _, foldl_slotsDown _ _, foldl_slotsUp _ _⟩

theorem passPrimary_bijective (r : Rotor n) : Function.Bijective (passPrimary r) :=
  Function.bijective_iff_has_inverse.mpr ⟨_, passSecondary_passPrimary r, passPrimary_passSecondary r⟩

theorem passSecondary_bijective (r : Rotor n) : Function.Bijective (passSecondary r) :=
  Function.bijective_iff_has_inverse.mpr ⟨_, passPrimary_passSecondary r, passSecondary_passPrimary r⟩

/-- A loop whose every pass is a bijection is a bijection, in whatever order it takes the slots. -/
theorem foldl_bijective {f : Slot → α → α} (hf : ∀ i, Function.Bijective (f i)) (slots : List Slot) :
    Function.Bijective fun x => slots.foldl (fun y i => f i y) x := by
  induction slots with
  | nil => exact Function.bijective_id
  | cons i rest ih => exact ih.comp (hf i)

/-- Settles O17: every pass of the two traversals is a bijection (R107). -/
theorem controlAndIndexPathsAreBijections : Obligations.ControlAndIndexPathsAreBijections := fun s =>
  ⟨foldl_bijective (fun i => passSecondary_bijective (s.controlRotor i)) slotsDown,
    foldl_bijective (fun i => passPrimary_bijective (s.indexRotor i)) slotsUp⟩

/-! ### The display text -/

theorem State.display_cipher (s : State) : s.display .cipher = s.C.toList.map letterGlyph := rfl

theorem State.display_control (s : State) : s.display .control = s.K.toList.map letterGlyph := rfl

theorem State.display_index (s : State) : s.display .index = s.I.toList.map digitGlyph := rfl

/-- Settles O19: the display of a bank is one glyph for each of its five positions. -/
theorem displaysShowThePositions : Obligations.DisplaysShowThePositions := by
  intro s j
  refine ⟨?_, ?_, ?_, fun bank => ?_⟩
  · rw [s.display_cipher, Slots.getElem?_map_toList, letterGlyph]
  · rw [s.display_control, Slots.getElem?_map_toList, letterGlyph]
  · rw [s.display_index, Slots.getElem?_map_toList, digitGlyph]
  · cases bank with
    | cipher => simp [State.display_cipher]
    | control => simp [State.display_control]
    | index => simp [State.display_index]

end Sys2Proof.Machine
end

section
/-! Proofs of the statements of 42_cage_ops.md: substitution (R140), the odometer (R141), the stepping network
(R142, R143), the cipher-bank step (R144 to R146, R149) and what a letter key moves (R148, R206). -/

namespace Sys2Proof

theorem Slots.toList_set (b : Slots α) (i : Slot) (v : α) : (b.set i v).toList = b.toList.set i.val v := by
  fin_cases i <;> rfl

/-- Marking one slot adds at most one to the number of marked slots. -/
theorem Slots.count_set_true_le (b : Slots Bool) (i : Slot) :
    (b.set i true).toList.count true ≤ b.toList.count true + 1 := by
  rw [Slots.toList_set, List.count_set i.isLt]
  simp only [beq_self_eq_true, if_true]
  omega

end Sys2Proof

namespace Sys2Proof.Machine

/-! ### Substitution -/

/-- A loop over the slots in the opposite order, every pass undone, undoes the whole loop. -/
theorem foldl_reverse_leftInverse {f g : Slot → α → α} (h : ∀ i, Function.LeftInverse (g i) (f i))
    (slots : List Slot) (x : α) :
    slots.reverse.foldl (fun y i => g i y) (slots.foldl (fun y i => f i y) x) = x := by
  induction slots generalizing x with
  | nil => rfl
  | cons i rest ih =>
    rw [List.foldl_cons, List.reverse_cons, List.foldl_append, ih]
    exact h i x

/-- Settles O16: the two traversals take the slots in opposite orders, through mutually inverse passes (R107). -/
theorem substitutionIsUndoneByTheOtherDirection : Obligations.SubstitutionIsUndoneByTheOtherDirection :=
  fun s x =>
    ⟨foldl_reverse_leftInverse (fun i => passSecondary_passPrimary (s.cipherRotor i)) slotsUp x,
      foldl_reverse_leftInverse (fun i => passPrimary_passSecondary (s.cipherRotor i)) slotsDown x⟩

/-- A secondary pass through an identity wiring is the identity: it undoes a primary pass that is one (R106). -/
theorem passSecondary_of_identity {r : Rotor n} (h : ∀ j, tableAt r.cfg.wiring.fwd j = j) (x : Fin n) :
    passSecondary r x = x := by
  have hundo := passSecondary_passPrimary r x
  rwa [passPrimary_of_identity h] at hundo

/-- Settles O18: in both directions every pass of the loop is the identity. -/
theorem identityWiringSubstitutesNothing : Obligations.IdentityWiringSubstitutesNothing := by
  intro s d x hid
  have hprimary (i : Slot) : passPrimary (s.cipherRotor i) x = x := passPrimary_of_identity (hid i) x
  have hsecondary (i : Slot) : passSecondary (s.cipherRotor i) x = x := passSecondary_of_identity (hid i) x
  cases d with
  | encrypt => exact List.foldl_fixed' (f := fun y i => passPrimary (s.cipherRotor i) y) hprimary slotsUp
  | decrypt => exact List.foldl_fixed' (f := fun y i => passSecondary (s.cipherRotor i) y) hsecondary slotsDown

/-! ### The odometer -/

/-- A clockwise step is one down when Normal and one up when Reversed (R101). -/
theorem Rotor.rotCW_val (r : Rotor 26) :
    r.rotCW.val = if r.cfg.rev = true then (r.pos.val + 1) % 26 else (r.pos.val + 25) % 26 := by
  rw [Rotor.rotCW, rotorStepDirection 26 r true]
  cases r.cfg.rev <;> rfl

/-- Settles O20, slot by slot: the slots that move make the clockwise step of their rotor. -/
theorem odometerStepsFourCases : Obligations.OdometerStepsFourCases := by
  intro s j
  refine ⟨?_, stepControlBank_frame s⟩
  rw [stepControlBank_K_get]
  simp only [atHome_iff]
  split
  · exact (s.controlRotor j).rotCW_val
  · rfl

/-! ### The stepping network -/

theorem magnetOf_of_disconnected {s : State} {v : Variant} {c : Contact}
    (h : tableAt (CrossTables.c2i s.config.cross v) (s.controlPath c) = none) : s.magnetOf v c = none := by
  rw [State.magnetOf, h]

theorem magnetOf_of_connected {s : State} {v : Variant} {c : Contact} {i : IndexContact}
    (h : tableAt (CrossTables.c2i s.config.cross v) (s.controlPath c) = some i) :
    s.magnetOf v c = some (tableAt s.config.cross.i2m (s.indexPath i)) := by
  rw [State.magnetOf, h]

/-- Settles O21: the table of the statement is `C2I` of the variant. -/
theorem magnetPathOfAContact : Obligations.MagnetPathOfAContact := by
  intro s v c T hT
  have htable : T = CrossTables.c2i s.config.cross v := by
    rcases hT with ⟨rfl, rfl⟩ | ⟨rfl, rfl⟩ <;> rfl
  subst htable
  exact ⟨magnetOf_of_disconnected, fun _ => magnetOf_of_connected⟩

/-- One driven contact energizes the magnet its path ends on, if any, and no other (R143). -/
theorem energize_get_iff (s : State) (v : Variant) (move : Slots Bool) (c : Contact) (m : Slot) :
    (s.energize v move c).get m = true ↔ move.get m = true ∨ s.magnetOf v c = some m := by
  unfold State.energize
  cases s.magnetOf v c with
  | none => simp
  | some i =>
    by_cases h : m = i
    · simp [h]
    · simp [Slots.get_set_of_ne _ _ h, Ne.symm h]

theorem foldl_energize_get_iff (s : State) (v : Variant) (contacts : List Contact) (move : Slots Bool) (m : Slot) :
    (contacts.foldl (s.energize v) move).get m = true ↔
      move.get m = true ∨ ∃ c ∈ contacts, s.magnetOf v c = some m := by
  induction contacts generalizing move with
  | nil => simp
  | cons c rest ih => rw [List.foldl_cons, ih, energize_get_iff, List.exists_mem_cons_iff, or_assoc]

/-- A magnet is energized iff the path of some driven contact ends on it (R143). -/
theorem energized_get_iff (s : State) (v : Variant) (m : Slot) :
    (s.energized v).get m = true ↔ ∃ c ∈ CrossTables.drive s.config.cross v, s.magnetOf v c = some m := by
  rw [State.energized, foldl_energize_get_iff, Slots.get_fill]
  simp

theorem energize_count_le (s : State) (v : Variant) (move : Slots Bool) (c : Contact) :
    (s.energize v move c).toList.count true ≤ move.toList.count true + 1 := by
  unfold State.energize
  split
  · exact Nat.le_succ _
  · exact move.count_set_true_le _

/-- A list of driven contacts energizes at most as many magnets as it has members. -/
theorem foldl_energize_count_le (s : State) (v : Variant) (contacts : List Contact) (move : Slots Bool) :
    (contacts.foldl (s.energize v) move).toList.count true ≤ move.toList.count true + contacts.length := by
  induction contacts generalizing move with
  | nil => exact le_rfl
  | cons c rest ih =>
    calc (rest.foldl (s.energize v) (s.energize v move c)).toList.count true
        ≤ (s.energize v move c).toList.count true + rest.length := ih _
      _ ≤ move.toList.count true + 1 + rest.length := Nat.add_le_add_right (energize_count_le s v move c) _
      _ = move.toList.count true + (c :: rest).length := by rw [List.length_cons]; omega

theorem energized_count_le (s : State) (v : Variant) :
    (s.energized v).toList.count true ≤ (CrossTables.drive s.config.cross v).length := by
  have hnone : (Slots.fill false).toList.count true = 0 := rfl
  simpa only [hnone, Nat.zero_add, State.energized] using
    foldl_energize_count_le s v (CrossTables.drive s.config.cross v) (Slots.fill false)

/-- Settles O22: `energized` is the loop over the driven contacts, each of which adds at most one magnet. -/
theorem energizedExactlyTheReachedMagnets : Obligations.EnergizedExactlyTheReachedMagnets := by
  intro s
  have hfour : (CrossTables.drive s.config.cross .csp889).length = 4 := Vector.length_toList
  have hsix : (CrossTables.drive s.config.cross .csp2900).length = 6 := Vector.length_toList
  exact ⟨energized_get_iff s, hfour, hsix, hfour ▸ energized_count_le s .csp889⟩

/-! ### The cipher-bank step -/

/-- Clockwise, but for slots 1 and 3 of CSP-2900 (R149). -/
theorem cdir_eq (v : Variant) (j : Slot) : cdir v j = decide (v = .csp889 ∨ j = 0 ∨ j = 2 ∨ j = 4) := by
  cases v <;> revert j <;> decide

/-- Settles O23, with `energized` as the set of magnets. -/
theorem cipherBankStepsEnergizedRotorsOnce : Obligations.CipherBankStepsEnergizedRotorsOnce := by
  intro s v
  refine ⟨s.energized v, energized_get_iff s v, ?_⟩
  simp only [stepCipherBank_eq, State.stepEnergized, cdir_eq, Bool.or_eq_true]

/-! ### What a letter key moves -/

/-- A step always moves a rotor of 26 positions (R101). -/
theorem Rotor.stepped_ne_pos (r : Rotor 26) (clockwise : Bool) : r.stepped clockwise ≠ r.pos := by
  have hmoves : r.increment clockwise ≠ 0 := by
    unfold Rotor.increment
    split <;> decide
  rwa [Rotor.stepped_eq_pos_add_increment, ne_eq, add_eq_left]

/-- The cipher slots that move are the energized ones. -/
theorem stepCipherBank_C_get_ne_iff (s : State) (v : Variant) (j : Slot) :
    (s.stepCipherBank v).C.get j ≠ s.C.get j ↔ (s.energized v).get j = true := by
  rw [stepCipherBank_C_get]
  split
  next h => exact iff_of_true ((s.cipherRotor j).stepped_ne_pos _) h
  next h => exact iff_of_false (fun hne => hne rfl) h

/-- Where the odometer leaves the control bank depends on the control positions and the configuration alone (R141). -/
theorem stepControlBank_K_congr {s t : State} (hK : s.K = t.K) (hconfig : s.config = t.config) :
    s.stepControlBank.K = t.stepControlBank.K := by
  apply Slots.ext_get
  intro j
  rw [stepControlBank_K_get, stepControlBank_K_get, State.controlRotor, State.controlRotor, hK, hconfig]

@[simp] theorem encryptLetterKey_C (v : Variant) (x : Contact) (s : State) :
    (encryptLetterKey v x s).C = (s.stepCipherBank v).C := by
  unfold encryptLetterKey State.cycle
  dsimp only
  split <;> simp [advance_eq]

@[simp] theorem encryptLetterKey_K (v : Variant) (x : Contact) (s : State) :
    (encryptLetterKey v x s).K = s.stepControlBank.K := by
  unfold encryptLetterKey State.cycle
  dsimp only
  split <;> simp [advance_eq]

@[simp] theorem decryptLetterKey_C (v : Variant) (x : Contact) (s : State) :
    (decryptLetterKey v x s).C = (s.stepCipherBank v).C := by
  simp [decryptLetterKey, State.cycle, advance_eq]

@[simp] theorem decryptLetterKey_K (v : Variant) (x : Contact) (s : State) :
    (decryptLetterKey v x s).K = s.stepControlBank.K := by
  simp [decryptLetterKey, State.cycle, advance_eq]

/-- A live key other than RPT under Operate is dispatched by the operating switch (R190). -/
theorem exec_of_live_operate {i : Instr} {k : Key} {s : State} {op : OperatingSwitch} {v : Variant}
    (hkey : i.key? = some k) (hrpt : k ≠ .rpt) (hop : op ≠ .off) (hlive : KeyLive s op .operate v) :
    exec i s = .next (operateModeKey v k s.beginEvent) := by
  obtain ⟨rfl, hz, hv, hl⟩ := hlive
  have hz' : s.beginEvent.zeroizeSwitch = .operate := hz
  have hdispatch : handleKey k s.beginEvent = dispatchKey v k s.beginEvent :=
    handleKey_of_live k hop hv (by simp [hz]) hl
  rw [exec_of_key hkey, keyEvent, hdispatch, dispatchKey, if_neg hrpt, hz']

/-- A live letter in Encrypt (R203). -/
theorem exec_letter_of_encrypt {i : Instr} {x : Contact} {s : State} {v : Variant} (hkey : i.key? = some (.letter x))
    (hlive : KeyLive s .encrypt .operate v) :
    exec i s = .next (encryptLetterKey v (if x = 25 then 23 else x) s.beginEvent) := by
  rw [exec_of_live_operate hkey (by simp) (by simp) hlive]
  simp [operateModeKey, hlive.1, encryptModeKey, encryptContact]

/-- A live letter in Decrypt (R206). -/
theorem exec_letter_of_decrypt {i : Instr} {x : Contact} {s : State} {v : Variant} (hkey : i.key? = some (.letter x))
    (hlive : KeyLive s .decrypt .operate v) :
    exec i s = .next (decryptLetterKey v x s.beginEvent) := by
  rw [exec_of_live_operate hkey (by simp) (by simp) hlive]
  simp [operateModeKey, hlive.1, decryptModeKey]

/-- Settles O24: in both modes a letter moves the energized cipher slots and runs the odometer, and neither depends
on more than the control and index positions and the configuration. -/
theorem steppingIgnoresKeyAndDirection : Obligations.SteppingIgnoresKeyAndDirection := by
  intro i i' x x' v s t hkey hkey' hencrypt hdecrypt hK hI hconfig
  refine ⟨_, _, exec_letter_of_encrypt hkey hencrypt, exec_letter_of_decrypt hkey' hdecrypt, ?_, fun j => ?_⟩
  · simpa using stepControlBank_K_congr hK hconfig
  · simp only [encryptLetterKey_C, decryptLetterKey_C, stepCipherBank_beginEvent_C]
    rw [stepCipherBank_C_get_ne_iff, stepCipherBank_C_get_ne_iff, energized_congr hK hI hconfig]

end Sys2Proof.Machine
end

section
/-! Proofs of the statements of 43_switch_events.md: NOP and the reserved words (R170, R176), the three switch events
(R171, R172, R173), ZEROIZE (R174) and SETPOS (R175). -/

namespace Sys2Proof.Machine

/-! ### The switch events, by the position they set -/

/-- The SETOP row of a position runs the SETOP event of that position (R171). -/
theorem OperatingSwitch.exec_instr (new : OperatingSwitch) (s : State) :
    exec new.instr s = .next (setOperatingSwitch new s.beginEvent) := by
  cases new <;> rfl

/-- The SETZ row of a position writes that position (R172). -/
theorem ZeroizeSwitch.exec_instr (z : ZeroizeSwitch) (s : State) :
    exec z.instr s = .next { s with zeroizeSwitch := z, out := [] } := by
  cases z <;> rfl

/-- The SETVAR row of a position writes that position (R173). -/
theorem VariantSwitch.exec_instr (v : VariantSwitch) (s : State) :
    exec v.instr s = .next { s with machineVariant := v, out := [] } := by
  cases v <;> rfl

/-- Settles O26: `setOperatingSwitch_eq` at each of the five positions, which decides its conditions on the new one. -/
theorem setOperatingSwitchEffects : Obligations.SetOperatingSwitchEffects := by
  intro s
  refine ⟨(OperatingSwitch.exec_instr .off s).trans ?off, (OperatingSwitch.exec_instr .plaintext s).trans ?plaintext,
    (OperatingSwitch.exec_instr .reset s).trans ?reset, (OperatingSwitch.exec_instr .encrypt s).trans ?encrypt,
    (OperatingSwitch.exec_instr .decrypt s).trans ?decrypt⟩
  case reset => simp [setOperatingSwitch_eq, State.paddingCount, groupLength]
  case off | plaintext | encrypt | decrypt => simp [setOperatingSwitch_eq]

/-- Settles O27: SETZ at each of its three positions. -/
theorem setZeroizeSwitchEffects : Obligations.SetZeroizeSwitchEffects := fun s =>
  ⟨ZeroizeSwitch.exec_instr .zeroize s, ZeroizeSwitch.exec_instr .neutral s, ZeroizeSwitch.exec_instr .operate s⟩

/-- Settles O28: SETVAR at each of its three positions. -/
theorem setVariantSwitchEffects : Obligations.SetVariantSwitchEffects := fun s =>
  ⟨VariantSwitch.exec_instr .csp889 s, VariantSwitch.exec_instr .csp2900 s, VariantSwitch.exec_instr .neutral s⟩

/-! ### The position events -/

/-- The SETPOS row of a bank overrides the positions of that bank (R175). -/
theorem exec_setposInstr (bank : Bank) (sym : Slots Nat) (s : State) :
    exec (setposInstr bank sym) s = .next (s.beginEvent.setPositions bank sym) := by
  cases bank <;> rfl

/-- A bank of sanitised symbols, slot by slot (R125). -/
theorem tabulate_sanitize_get_val (n : Nat) (home : Fin n) (sym : Slots Nat) (j : Slot) :
    ((Slots.tabulate fun i => sanitize n home (sym.get i)).get j).val =
      if sym.get j < n then sym.get j else home.val := by
  rw [Slots.get_tabulate, sanitize_val]

/-- Settles O30: each row writes its bank, and every slot of it is a sanitised symbol. -/
theorem setPositionsSanitisePerSlot : Obligations.SetPositionsSanitisePerSlot := fun a b c d e s =>
  have hexec (bank : Bank) := exec_setposInstr bank ⟨a, b, c, d, e⟩ s
  ⟨⟨_, hexec .cipher, rfl, tabulate_sanitize_get_val 26 home26 _⟩,
    ⟨_, hexec .control, rfl, tabulate_sanitize_get_val 26 home26 _⟩,
    ⟨_, hexec .index, rfl, tabulate_sanitize_get_val 10 home10 _⟩⟩

theorem exec_zeroize (s : State) : exec .zeroize s = .next s.beginEvent.zeroizeRotors := rfl

/-- Settles O29: `zeroizeRotors` fills both banks with the home position, which is 14 (R147). -/
theorem zeroizeSetsTenPositionsHome : Obligations.ZeroizeSetsTenPositionsHome := exec_zeroize

/-! ### The events without effect -/

theorem exec_nop (s : State) : exec .nop s = .next s.beginEvent := rfl

/-- Settles O25: all that NOP does is to start its event, with an empty output (R10). -/
theorem nopChangesNothing : Obligations.NopChangesNothing := exec_nop

/-- Settles O4, by the case of `step` that takes a reserved word. -/
theorem reservedWordIsIgnored : Obligations.ReservedWordIsIgnored := by
  intro w rest e s hev hdec
  rw [step_of_reserved (State.nextEvent_of_events hev) hdec, State.popEvent_of_events hev, State.beginEvent]

end Sys2Proof.Machine
end

section
/-! Proofs of the statements of 44_key_events.md: the gating rule (R190), the cells of the dispatch tables (R191 to
R207), the run of Blank keys that zeroizes (R193), and the traffic between an encrypting and a decrypting block (R206,
R282). -/

namespace Sys2Proof.Machine

/-! ### The dispatch tables, row by row -/

theorem dispatchKey_rpt (v : Variant) (s : State) : dispatchKey v .rpt s = s := rfl

theorem dispatchKey_of_zeroize (s : State) (v : Variant) {k : Key} (hrpt : k ≠ .rpt) (hz : s.zeroizeSwitch = .zeroize) :
    dispatchKey v k s = zeroizeModeKey v k s := by
  simp [dispatchKey, hrpt, hz]

theorem dispatchKey_of_operate (s : State) (v : Variant) {k : Key} (hrpt : k ≠ .rpt) (hz : s.zeroizeSwitch = .operate) :
    dispatchKey v k s = operateModeKey v k s := by
  simp [dispatchKey, hrpt, hz]

theorem zeroizeModeKey_of_ne_blank (s : State) (v : Variant) {k : Key} (hk : k ≠ .blank) :
    zeroizeModeKey v k s = s := by
  simp [zeroizeModeKey, hk, ignoreKey]

theorem zeroizeModeKey_blank_of_plaintext (s : State) (v : Variant) (h : s.operatingSwitch = .plaintext) :
    zeroizeModeKey v .blank s = zeroizeBlankPlaintextKey s := by
  simp [zeroizeModeKey, h]

theorem zeroizeModeKey_blank_of_cipher_modes (s : State) (v : Variant)
    (h : s.operatingSwitch = .reset ∨ s.operatingSwitch = .encrypt ∨ s.operatingSwitch = .decrypt) :
    zeroizeModeKey v .blank s = zeroizeBlankKey v s := by
  rcases h with h | h | h <;> simp [zeroizeModeKey, h]

theorem operateModeKey_of_reset (s : State) (v : Variant) (k : Key) (h : s.operatingSwitch = .reset) :
    operateModeKey v k s = resetModeKey v k s := by
  simp [operateModeKey, h]

theorem operateModeKey_of_plaintext (s : State) (v : Variant) (k : Key) (h : s.operatingSwitch = .plaintext) :
    operateModeKey v k s = plaintextModeKey k s := by
  simp [operateModeKey, h]

theorem operateModeKey_of_encrypt (s : State) (v : Variant) (k : Key) (h : s.operatingSwitch = .encrypt) :
    operateModeKey v k s = encryptModeKey v k s := by
  simp [operateModeKey, h]

theorem operateModeKey_of_decrypt (s : State) (v : Variant) (k : Key) (h : s.operatingSwitch = .decrypt) :
    operateModeKey v k s = decryptModeKey v k s := by
  simp [operateModeKey, h]

/-- A digit 1..5 in Reset steps the control slot it names (R195). -/
theorem resetModeKey_digit_of_slot (s : State) (v : Variant) {d : IndexContact} {j : Slot} (hd : d.val = j.val + 1) :
    resetModeKey v (.digit d) s = resetDigitKey v j s := by
  simp [resetModeKey, (resetDigitSlot_eq_some_iff d j).mpr hd]

/-- The digits 0 and 6..9 name no control slot (R197). -/
theorem resetModeKey_digit_of_no_slot (s : State) (v : Variant) {d : IndexContact} (hd : d.val = 0 ∨ 6 ≤ d.val) :
    resetModeKey v (.digit d) s = s := by
  simp [resetModeKey, (resetDigitSlot_eq_none_iff d).mpr hd, ignoreKey]

/-- The keys that Encrypt sends, and as which contact (R203). -/
theorem encryptContact_eq_some_iff (k : Key) (x : Contact) :
    encryptContact k = some x ↔ (∃ l, k = .letter l ∧ x = if l = 25 then 23 else l) ∨ (k = .spaceBar ∧ x = 25) := by
  cases k <;> simp [encryptContact, eq_comm]

theorem encryptModeKey_of_contact (s : State) (v : Variant) {k : Key} {x : Contact} (hx : encryptContact k = some x) :
    encryptModeKey v k s = encryptLetterKey v x s := by
  have hblank : k ≠ .blank := by rintro rfl; cases hx
  simp [encryptModeKey, hblank, hx]

/-! ### The keys without effect -/

theorem keysGated_iff (s : State) :
    s.keysGated = true ↔
      s.operatingSwitch = .off ∨ s.machineVariant = .neutral ∨ s.zeroizeSwitch = .neutral ∨ 21 ≤ s.lockupCount := by
  simp [State.keysGated, State.gatedBySwitches, or_assoc]

/-- Settles O31: the four disjuncts are the gating rule. -/
theorem gatedKeysAreNoOps : Obligations.GatedKeysAreNoOps := by
  intro i k s hkey hgated
  rw [exec_of_key hkey, keyEvent, handleKey_of_gated k ((keysGated_iff s.beginEvent).mpr hgated), State.beginEvent]

/-- A key that dispatch ignores has no effect, gated or not (R190). -/
theorem exec_of_dispatch_ignored {i : Instr} {k : Key} {s : State} (hkey : i.key? = some k)
    (hignored : ∀ v, dispatchKey v k s.beginEvent = s.beginEvent) : exec i s = .next { s with out := [] } := by
  have hsame : handleKey k s.beginEvent = s.beginEvent := by
    rcases handleKey_cases k s.beginEvent with h | ⟨v, -, -, -, -, h⟩
    · exact h
    · exact h.trans (hignored v)
  rw [exec_of_key hkey, keyEvent, hsame, State.beginEvent]

/-- Settles O32: dispatch ignores RPT before it looks at a switch. -/
theorem rptKeyIsAlwaysIgnored : Obligations.RptKeyIsAlwaysIgnored := fun _ =>
  exec_of_dispatch_ignored rfl fun v => dispatchKey_rpt v _

/-- Settles O33: the Zeroize rule acts on Blank alone, and RPT never gets so far. -/
theorem zeroizeModeIgnoresOtherKeys : Obligations.ZeroizeModeIgnoresOtherKeys := by
  intro i k s hkey hblank hz
  refine exec_of_dispatch_ignored hkey fun v => ?_
  by_cases hrpt : k = .rpt
  · rw [hrpt, dispatchKey_rpt]
  · rw [dispatchKey_of_zeroize s.beginEvent v hrpt hz, zeroizeModeKey_of_ne_blank _ v hblank]

/-- Under Operate, a key that the row of the operating mode ignores has no effect. -/
theorem exec_of_operate_ignored {i : Instr} {k : Key} {s : State} (hkey : i.key? = some k) (hrpt : k ≠ .rpt)
    (hz : s.zeroizeSwitch = .operate) (hignored : ∀ v, operateModeKey v k s.beginEvent = s.beginEvent) :
    exec i s = .next { s with out := [] } :=
  exec_of_dispatch_ignored hkey fun v => (dispatchKey_of_operate s.beginEvent v hrpt hz).trans (hignored v)

/-- Settles O38, key by key in the row Operate, Reset. -/
theorem resetModeIgnoresOtherKeys : Obligations.ResetModeIgnoresOtherKeys := by
  intro i k s hkey hcases hop hz
  have hrow (v : Variant) := operateModeKey_of_reset s.beginEvent v k hop
  rcases hcases with ⟨l, rfl⟩ | ⟨d, rfl, hd⟩ | rfl | rfl
  case inr.inl =>
    exact exec_of_operate_ignored hkey nofun hz fun v => (hrow v).trans (resetModeKey_digit_of_no_slot _ v hd)
  all_goals exact exec_of_operate_ignored hkey nofun hz hrow

/-- Settles O41: a digit or the dash names no contact to send. -/
theorem encryptIgnoresDigitsAndDash : Obligations.EncryptIgnoresDigitsAndDash := by
  intro i k s hkey hcases hop hz
  have hrow (v : Variant) := operateModeKey_of_encrypt s.beginEvent v k hop
  rcases hcases with ⟨d, rfl⟩ | rfl
  all_goals exact exec_of_operate_ignored hkey nofun hz hrow

/-- Settles O44, key by key in the row Operate, Decrypt. -/
theorem decryptIgnoresSpaceDigitsDash : Obligations.DecryptIgnoresSpaceDigitsDash := by
  intro i k s hkey hcases hop hz
  have hrow (v : Variant) := operateModeKey_of_decrypt s.beginEvent v k hop
  rcases hcases with rfl | ⟨d, rfl⟩ | rfl
  all_goals exact exec_of_operate_ignored hkey nofun hz hrow

/-! ### Zeroize: the Blank key -/

/-- The live Blank key at Zeroize is dispatched by the operating switch (R190). -/
theorem exec_keyBlank_of_live_zeroize {s : State} {op : OperatingSwitch} {v : Variant} (hop : op ≠ .off)
    (hlive : KeyLive s op .zeroize v) :
    exec .keyBlank s = .next (zeroizeModeKey v .blank s.beginEvent) := by
  obtain ⟨rfl, hz, hv, hl⟩ := hlive
  have hdispatch : handleKey .blank s.beginEvent = dispatchKey v .blank s.beginEvent :=
    handleKey_of_live .blank hop hv (by simp [hz]) hl
  rw [exec_of_key rfl, keyEvent, hdispatch, dispatchKey_of_zeroize s.beginEvent v (by simp) hz]

theorem zeroizeBlankKey_eq (v : Variant) (s : State) :
    zeroizeBlankKey v s =
      { s with
        C := (s.stepTowardHome v).C
        K := (s.stepTowardHome v).K
        keystrokeCount := s.keystrokeCount + 1
        out := s.out ++ if s.operatingSwitch = .encrypt ∨ s.operatingSwitch = .decrypt then [.space] else [] } := by
  unfold zeroizeBlankKey
  dsimp only
  split
  · rfl
  · rw [List.append_nil]; rfl

/-- A rotor at home stays there, which is at position 14 (R23). -/
theorem ite_atHome (pos moved : Contact) :
    (if atHome pos = true then pos else moved) = if pos = 14 then 14 else moved := by
  simp only [atHome_iff]
  split
  next h => exact h
  next => rfl

/-- Settles O34: Reset, Encrypt and Decrypt share one rule, whose direction is that of R149. -/
theorem zeroizeBlankStepsRotorsTowardHome : Obligations.ZeroizeBlankStepsRotorsTowardHome := by
  intro op v s hop hlive
  have hoff : op ≠ .off := by rintro rfl; simp at hop
  have hout : (if op = .encrypt ∨ op = .decrypt then [OutChar.space] else []) =
      if op = .reset then [] else [.space] := by
    rcases hop with rfl | rfl | rfl <;> rfl
  rw [exec_keyBlank_of_live_zeroize hoff hlive]
  obtain ⟨rfl, -, -, -⟩ := hlive
  rw [zeroizeModeKey_blank_of_cipher_modes s.beginEvent v hop, zeroizeBlankKey_eq, ← hout]
  simp only [State.stepTowardHome_C, State.stepTowardHome_K, ite_atHome, cdir_eq]
  rfl

/-- Settles O35: of the Zeroize-mode Blank rules, the Plaintext one moves no rotor. -/
theorem zeroizeBlankPlaintextEmitsSpace : Obligations.ZeroizeBlankPlaintextEmitsSpace := by
  intro v s hlive
  rw [exec_keyBlank_of_live_zeroize (by simp) hlive, zeroizeModeKey_blank_of_plaintext s.beginEvent v hlive.1]
  rfl

/-! ### Reset -/

@[simp] theorem controlRotor_beginEvent (s : State) (j : Slot) : s.beginEvent.controlRotor j = s.controlRotor j := rfl

/-- `stepCipherBank` writes the cipher positions and `lockupCount` (R146). -/
theorem stepCipherBank_frame (s : State) (v : Variant) :
    s.stepCipherBank v =
      { s with C := (s.stepCipherBank v).C, lockupCount := (s.stepCipherBank v).lockupCount } := by
  rw [stepCipherBank_eq]

theorem resetDigitKey_eq (v : Variant) (j : Slot) (s : State) :
    resetDigitKey v j s =
      { s with
        C := (s.stepCipherBank v).C
        lockupCount := (s.stepCipherBank v).lockupCount
        K := s.K.set j (s.controlRotor j).rotCW
        keystrokeCount := s.keystrokeCount + 1 } := by
  rw [resetDigitKey, stepCipherBank_frame]
  rfl

theorem resetBlankKey_eq (v : Variant) (s : State) :
    resetBlankKey v s =
      { s with
        C := (s.stepCipherBank v).C
        lockupCount := (s.stepCipherBank v).lockupCount
        keystrokeCount := s.keystrokeCount + 1 } := by
  rw [resetBlankKey, stepCipherBank_frame]
  rfl

/-- Settles O36: the control rotor turns after the cipher bank has stepped, and neither reads what the other writes. -/
theorem resetDigitStepsCipherBankThenControlRotor : Obligations.ResetDigitStepsCipherBankThenControlRotor := by
  intro i d j v s hkey hd hlive
  rw [exec_of_live_operate hkey (by simp) (by simp) hlive, operateModeKey_of_reset s.beginEvent v _ hlive.1,
    resetModeKey_digit_of_slot _ v hd, resetDigitKey_eq]
  simp

/-- Settles O37, by the rule of the Blank key in Reset. -/
theorem resetBlankStepsCipherBankOnly : Obligations.ResetBlankStepsCipherBankOnly := by
  intro v s hlive
  rw [exec_of_live_operate rfl (by simp) (by simp) hlive, operateModeKey_of_reset s.beginEvent v _ hlive.1,
    resetModeKey, resetBlankKey_eq]
  simp

/-! ### Plaintext -/

/-- A live key in Plaintext, of those that emit `ch` (R198, R199). -/
theorem exec_of_plaintext {i : Instr} {k : Key} {ch : OutChar} {s : State} {v : Variant} (hkey : i.key? = some k)
    (hrpt : k ≠ .rpt) (hch : plaintextModeKey k s.beginEvent = plaintextKey ch s.beginEvent)
    (hlive : KeyLive s .plaintext .operate v) :
    exec i s = .next { s with keystrokeCount := s.keystrokeCount + 1, out := [ch] } := by
  rw [exec_of_live_operate hkey hrpt (by simp) hlive, operateModeKey_of_plaintext s.beginEvent v _ hlive.1, hch]
  rfl

/-- Settles O39: each of these keys emits its own character. -/
theorem plaintextEchoesLettersDigitsDash : Obligations.PlaintextEchoesLettersDigitsDash := by
  intro i k ch v s hkey hcases hlive
  rcases hcases with ⟨l, rfl, rfl⟩ | ⟨d, rfl, rfl⟩ | ⟨rfl, rfl⟩
  all_goals exact exec_of_plaintext hkey (by simp) rfl hlive

/-- Settles O40: both keys emit the space. -/
theorem plaintextBlankAndSpaceEmitSpace : Obligations.PlaintextBlankAndSpaceEmitSpace := by
  intro i v s hcases hlive
  rcases hcases with rfl | rfl
  all_goals exact exec_of_plaintext rfl (by simp) rfl hlive

/-! ### Encrypt and Decrypt -/

theorem encryptBlankKey_eq (v : Variant) (s : State) :
    encryptBlankKey v s =
      { s with
        C := (s.stepCipherBank v).C
        K := s.stepControlBank.K
        lockupCount := (s.stepCipherBank v).lockupCount
        keystrokeCount := s.keystrokeCount + 1
        groupCount := s.groupCount + 1
        out := s.out ++ [.space] } := by
  rw [encryptBlankKey, advance_eq]
  rfl

theorem encryptLetterKey_eq (v : Variant) (x : Contact) (s : State) :
    encryptLetterKey v x s =
      { s with
        C := (s.stepCipherBank v).C
        K := s.stepControlBank.K
        lockupCount := (s.stepCipherBank v).lockupCount + 1
        keystrokeCount := s.keystrokeCount + 1
        groupCount := s.groupCount + 1
        out := s.out ++ (if 0 < s.groupCount ∧ s.groupCount % 5 = 0 then [.space] else []) ++
          [.letter (s.cipherEncrypt x)] } := by
  unfold encryptLetterKey State.cycle
  rw [advance_eq]
  simp only [atGroupBoundary_iff]
  split
  · rfl
  · rw [List.append_nil]; rfl

theorem decryptBlankKey_eq (v : Variant) (s : State) :
    decryptBlankKey v s =
      { s with
        C := (s.stepCipherBank v).C
        K := s.stepControlBank.K
        lockupCount := (s.stepCipherBank v).lockupCount + 1
        keystrokeCount := s.keystrokeCount + 1
        out := s.out ++ [.space] } := by
  rw [decryptBlankKey, advance_eq]
  rfl

theorem decryptLetterKey_eq (v : Variant) (x : Contact) (s : State) :
    decryptLetterKey v x s =
      { s with
        C := (s.stepCipherBank v).C
        K := s.stepControlBank.K
        lockupCount := (s.stepCipherBank v).lockupCount + 1
        keystrokeCount := s.keystrokeCount + 1
        out := s.out ++ [decryptedChar (s.cipherDecrypt x)] } := by
  rw [decryptLetterKey, State.cycle, advance_eq]
  rfl

/-- Settles O42: the cycle on a space steps both banks, and no lockup is counted. -/
theorem encryptBlankCyclesAndEmitsSpace : Obligations.EncryptBlankCyclesAndEmitsSpace := by
  intro v s hlive
  rw [exec_of_live_operate rfl (by simp) (by simp) hlive, operateModeKey_of_encrypt s.beginEvent v _ hlive.1,
    encryptModeKey, if_pos rfl, encryptBlankKey_eq]
  simp

/-- Settles O43: a key with a contact to send runs one rule, on that contact. -/
theorem encryptLettersSubstituteThenStep : Obligations.EncryptLettersSubstituteThenStep := by
  intro i k x v s hkey hcases hlive
  have hx : encryptContact k = some x := (encryptContact_eq_some_iff k x).mpr hcases
  have hrpt : k ≠ .rpt := by rintro rfl; cases hx
  rw [exec_of_live_operate hkey hrpt (by simp) hlive, operateModeKey_of_encrypt s.beginEvent v _ hlive.1,
    encryptModeKey_of_contact _ v hx, encryptLetterKey_eq, stepCipherBank_beginEvent_C,
    stepCipherBank_beginEvent_lockupCount, stepControlBank_beginEvent_K]
  rfl

/-- Settles O45: the cycle on a space steps both banks, and no group is counted. -/
theorem decryptBlankCyclesAndEmitsSpace : Obligations.DecryptBlankCyclesAndEmitsSpace := by
  intro v s hlive
  rw [exec_of_live_operate rfl (by simp) (by simp) hlive, operateModeKey_of_decrypt s.beginEvent v _ hlive.1,
    decryptModeKey, decryptBlankKey_eq]
  simp

/-- Settles O46, by the rule of a letter in Decrypt. -/
theorem decryptLettersSubstituteThenStep : Obligations.DecryptLettersSubstituteThenStep := by
  intro i x v s hkey hlive
  rw [exec_letter_of_decrypt hkey hlive, decryptLetterKey_eq, stepCipherBank_beginEvent_C,
    stepCipherBank_beginEvent_lockupCount, stepControlBank_beginEvent_K]
  rfl

/-! ### Pressing keys one after another -/

/-- The state after the KEY event of `k` (R190). -/
def State.press (s : State) (k : Key) : State := handleKey k s.beginEvent

/-- What `exec` answers on a KEY row is the state after its key. -/
theorem press_eq_of_exec {i : Instr} {k : Key} {s t : State} (hkey : i.key? = some k) (h : exec i s = .next t) :
    s.press k = t :=
  Host.Outcome.next.inj ((exec_of_key hkey s).symm.trans h)

/-- A presented KEY word is taken and run as its key (R57, R72). -/
theorem step_present_key (k : Key) (s : State) : step (s.present (encode k.instr)) = .next (s.press k) := by
  have hwf : k.instr.wellFormed = true := (encode_codeRows (opcode := 1) (keyInstrs_getElem?_code k)).1
  rw [step_of_decode rfl (decodeOfEncodeIsTheInstruction _ hwf)]
  exact exec_of_key (keyInstr_key? k) s

/-- The state after the keys `ks`, and the output stream that they append. -/
def typeKeys (ks : List Key) (s : State) : State × List OutChar :=
  match ks with
  | [] => (s, [])
  | k :: rest => ((typeKeys rest (s.press k)).1, (s.press k).out ++ (typeKeys rest (s.press k)).2)

/-- The words of a list of keys run without a stop (R250). -/
theorem runWords_keyWords (ks : List Key) (s : State) : runWords (keyWords ks) s = some (typeKeys ks s) := by
  induction ks generalizing s with
  | nil => rfl
  | cons k rest ih =>
    have hrest : runWords (keyWords rest) (s.press k) = some (typeKeys rest (s.press k)) := ih _
    have hcons : keyWords (k :: rest) = encode k.instr :: keyWords rest := rfl
    rw [hcons, runWords, step_present_key]
    simp only [hrest, Option.map_some, typeKeys]

theorem press_frame (k : Key) (s : State) :
    (s.press k).I = s.I ∧ (s.press k).operatingSwitch = s.operatingSwitch ∧
      (s.press k).zeroizeSwitch = s.zeroizeSwitch ∧ (s.press k).machineVariant = s.machineVariant ∧
      (s.press k).config = s.config := by
  obtain ⟨hI, hop, -, hz, hv, hconfig, -⟩ := handleKey_frame k s.beginEvent
  exact ⟨hI, hop, hz, hv, hconfig⟩

/-- The switches stay where they are, so after a key only lockup can gate the next one (R190). -/
theorem press_keyLive {s : State} {op : OperatingSwitch} {z : ZeroizeSwitch} {v : Variant} (hlive : KeyLive s op z v)
    (k : Key) (hlock : (s.press k).lockupCount < 21) : KeyLive (s.press k) op z v := by
  obtain ⟨hop, hz, hv, -⟩ := hlive
  obtain ⟨-, hop', hz', hv', -⟩ := press_frame k s
  exact ⟨hop'.trans hop, hz'.trans hz, hv' ▸ hv, hlock⟩

/-! ### Zeroizing by Blank keys -/

/-- Moved by `d` at every press and held at position 14, a rotor at `pos` is home within `n` presses. -/
def HomeWithin (n : Nat) (d pos : Contact) : Prop := ∃ k ≤ n, pos + k • d = 14

theorem homeWithin_zero_iff (d pos : Contact) : HomeWithin 0 d pos ↔ pos = 14 := by
  simp [HomeWithin]

/-- A press brings a rotor that is not home one step nearer. -/
theorem HomeWithin.press {n : Nat} {d pos : Contact} (h : HomeWithin (n + 1) d pos) :
    HomeWithin n d (if pos = 14 then 14 else pos + d) := by
  split
  next => exact ⟨0, Nat.zero_le n, by simp⟩
  next hne =>
    obtain ⟨k, hk, hpos⟩ := h
    cases k with
    | zero => exact absurd (by simpa using hpos) hne
    | succ k => exact ⟨k, Nat.le_of_succ_le_succ hk, by rw [add_assoc, ← succ_nsmul', hpos]⟩

theorem val_nsmul_one (p : Contact) : p.val • (1 : Contact) = p := by
  revert p
  decide

/-- One position a press, in either direction, reaches every position of 26 in 25 presses. -/
theorem homeWithin_increment (r : Rotor 26) (clockwise : Bool) (pos : Contact) :
    HomeWithin 25 (r.increment clockwise) pos := by
  unfold Rotor.increment
  split
  · exact ⟨(pos - 14).val, Nat.le_of_lt_succ (pos - 14).isLt, by rw [smul_neg, val_nsmul_one]; abel⟩
  · exact ⟨(14 - pos).val, Nat.le_of_lt_succ (14 - pos).isLt, by rw [val_nsmul_one]; abel⟩

/-- Every cipher and control rotor is home after at most `n` presses of the Zeroize-mode Blank key (R193). -/
structure RotorsHomeWithin (n : Nat) (v : Variant) (s : State) : Prop where
  cipher : ∀ j, HomeWithin n ((s.cipherRotor j).increment (cdir v j)) (s.C.get j)
  control : ∀ j, HomeWithin n ((s.controlRotor j).increment true) (s.K.get j)

/-- What a Zeroize-mode Blank key does to the positions and the counters that a run of them is about (R193). -/
theorem press_blank_toward_home {op : OperatingSwitch} {v : Variant} {s : State}
    (hop : op = .reset ∨ op = .encrypt ∨ op = .decrypt) (hlive : KeyLive s op .zeroize v) :
    (∀ j, (s.press .blank).C.get j =
        if s.C.get j = 14 then 14 else s.C.get j + (s.cipherRotor j).increment (cdir v j)) ∧
      (∀ j, (s.press .blank).K.get j =
        if s.K.get j = 14 then 14 else s.K.get j + (s.controlRotor j).increment true) ∧
      (s.press .blank).keystrokeCount = s.keystrokeCount + 1 ∧
      (s.press .blank).lockupCount = s.lockupCount := by
  rw [press_eq_of_exec rfl (zeroizeBlankStepsRotorsTowardHome op v s hop hlive)]
  refine ⟨fun j => ?_, fun j => ?_, rfl, rfl⟩
  · rw [Slots.get_tabulate, ← cdir_eq, Rotor.stepped_eq_pos_add_increment]; rfl
  · rw [Slots.get_tabulate, Rotor.rotCW_eq_pos_add]; rfl

/-- How far a rotor steps is a matter of its configuration, not of its position (R101). -/
theorem Rotor.increment_congr {r q : Rotor 26} (h : r.cfg = q.cfg) (clockwise : Bool) :
    r.increment clockwise = q.increment clockwise := by
  rw [Rotor.increment, h, Rotor.increment]

theorem RotorsHomeWithin.press_blank {n : Nat} {op : OperatingSwitch} {v : Variant} {s : State}
    (h : RotorsHomeWithin (n + 1) v s) (hop : op = .reset ∨ op = .encrypt ∨ op = .decrypt)
    (hlive : KeyLive s op .zeroize v) : RotorsHomeWithin n v (s.press .blank) := by
  obtain ⟨hC, hK, -, -⟩ := press_blank_toward_home hop hlive
  obtain ⟨-, -, -, -, hconfig⟩ := press_frame .blank s
  constructor
  · intro j
    have hcfg : ((s.press .blank).cipherRotor j).cfg = (s.cipherRotor j).cfg :=
      congrArg (fun c : Configuration => c.cipher.get j) hconfig
    rw [hC, Rotor.increment_congr hcfg]
    exact (h.cipher j).press
  · intro j
    have hcfg : ((s.press .blank).controlRotor j).cfg = (s.controlRotor j).cfg :=
      congrArg (fun c : Configuration => c.control.get j) hconfig
    rw [hK, Rotor.increment_congr hcfg]
    exact (h.control j).press

/-- A run of `n` Zeroize-mode Blank keys takes home the rotors that are `n` presses away, and counts `n` keys. -/
theorem typeKeys_blank_home {n : Nat} {op : OperatingSwitch} {v : Variant} {s : State}
    (hop : op = .reset ∨ op = .encrypt ∨ op = .decrypt) (hlive : KeyLive s op .zeroize v)
    (h : RotorsHomeWithin n v s) :
    (∀ j, (typeKeys (List.replicate n .blank) s).1.C.get j = 14 ∧
        (typeKeys (List.replicate n .blank) s).1.K.get j = 14) ∧
      (typeKeys (List.replicate n .blank) s).1.keystrokeCount = s.keystrokeCount + n := by
  induction n generalizing s with
  | zero =>
    exact ⟨fun j => ⟨(homeWithin_zero_iff _ _).mp (h.cipher j), (homeWithin_zero_iff _ _).mp (h.control j)⟩, rfl⟩
  | succ n ih =>
    obtain ⟨-, -, hkeys, hlock⟩ := press_blank_toward_home hop hlive
    have ⟨_, _, _, hunlocked⟩ := hlive
    have hlive' := press_keyLive hlive .blank (hlock ▸ hunlocked)
    obtain ⟨hhome, hcount⟩ := ih hlive' (h.press_blank hop hlive)
    exact ⟨hhome, hcount.trans (by omega)⟩

/-- Settles O59: no position is more than 25 presses from home in either direction. -/
theorem twentyFiveBlankPressesZeroize : Obligations.TwentyFiveBlankPressesZeroize := by
  intro op v s hop hlive
  obtain ⟨hhome, hcount⟩ := typeKeys_blank_home hop hlive
    ⟨fun j => homeWithin_increment _ _ _, fun j => homeWithin_increment _ _ _⟩
  exact ⟨_, _, runWords_keyWords (List.replicate 25 .blank) s, hhome, hcount⟩

/-! ### Traffic between two blocks -/

theorem letterKeys_append (a b : List OutChar) : letterKeys (a ++ b) = letterKeys a ++ letterKeys b :=
  List.filterMap_append

/-- The grouping space of a ciphertext letter is not typed (R282). -/
theorem letterKeys_group (p : Prop) [Decidable p] (y : Contact) :
    letterKeys ((if p then [.space] else []) ++ [.letter y]) = [.letter y] := by
  split <;> rfl

/-- A key that Encrypt sends is sent as a contact that decrypts to what the key is received as (R203, R206). -/
theorem exists_encryptContact_of_isTrafficKey {k : Key} (h : isTrafficKey k = true) :
    ∃ x, encryptContact k = some x ∧ decryptedChar x = receivedAs k := by
  cases k with
  | letter i =>
    have hne : (if i = 25 then 23 else i) ≠ (25 : Contact) := by
      split
      · decide
      · assumption
    exact ⟨_, rfl, if_neg hne⟩
  | spaceBar => exact ⟨25, rfl, rfl⟩
  | digit | dash | blank | rpt => cases h

theorem cipherDecrypt_cipherEncrypt (s : State) (x : Contact) : s.cipherDecrypt (s.cipherEncrypt x) = x :=
  (substitutionIsUndoneByTheOtherDirection s x).1

theorem cipherEncrypt_congr {s t : State} (hC : s.C = t.C) (hconfig : s.config = t.config) :
    s.cipherEncrypt = t.cipherEncrypt := by
  funext x
  simp only [State.cipherEncrypt, State.cipherRotor, hC, hconfig]

theorem stepCipherBank_congr {s t : State} (h : SameTraffic s t) (v : Variant) :
    (s.stepCipherBank v).C = (t.stepCipherBank v).C ∧
      (s.stepCipherBank v).lockupCount = (t.stepCipherBank v).lockupCount := by
  obtain ⟨hconfig, -, hC, hK, hI, hlock⟩ := h
  rw [stepCipherBank_eq, stepCipherBank_eq, energized_congr hK hI hconfig]
  simp only [State.stepEnergized, State.cipherRotor, hC, hconfig, hlock, and_self]

/-- One key of the traffic: the encrypting block emits one letter, of which the decrypting block makes what the key
is received as, and the two stay in step. -/
theorem press_traffic {k : Key} {v : Variant} {s t : State} (hk : isTrafficKey k = true)
    (hs : KeyLive s .encrypt .operate v) (ht : KeyLive t .decrypt .operate v) (hst : SameTraffic s t) :
    ∃ y, letterKeys (s.press k).out = [.letter y] ∧ (t.press (.letter y)).out = [receivedAs k] ∧
      SameTraffic (s.press k) (t.press (.letter y)) := by
  obtain ⟨x, hx, hreceived⟩ := exists_encryptContact_of_isTrafficKey hk
  obtain ⟨hbank, hlock⟩ := stepCipherBank_congr hst v
  obtain ⟨hconfig, hvariant, hC, hK, hI, -⟩ := hst
  have hback : t.cipherDecrypt (s.cipherEncrypt x) = x := by
    rw [cipherEncrypt_congr hC hconfig, cipherDecrypt_cipherEncrypt]
  have hsent := press_eq_of_exec (keyInstr_key? k) (encryptLettersSubstituteThenStep _ k x v s (keyInstr_key? k)
    ((encryptContact_eq_some_iff k x).mp hx) hs)
  have hread := press_eq_of_exec (keyInstr_key? (.letter (s.cipherEncrypt x)))
    (decryptLettersSubstituteThenStep _ _ v t (keyInstr_key? _) ht)
  refine ⟨s.cipherEncrypt x, ?_, ?_, ?_⟩
  · rw [hsent]
    exact letterKeys_group _ _
  · rw [hread]
    dsimp only
    rw [hback, ← hreceived, decryptedChar]
  · rw [hsent, hread]
    exact ⟨hconfig, hvariant, hbank, stepControlBank_K_congr hK hconfig, hI, congrArg (· + 1) hlock⟩

theorem sameTraffic_trans {s t u : State} (h : SameTraffic s t) (h' : SameTraffic t u) : SameTraffic s u := by
  obtain ⟨hconfig, hvariant, hC, hK, hI, hlock⟩ := h
  obtain ⟨hconfig', hvariant', hC', hK', hI', hlock'⟩ := h'
  exact ⟨hconfig.trans hconfig', hvariant.trans hvariant', hC.trans hC', hK.trans hK', hI.trans hI',
    hlock.trans hlock'⟩

/-- A locked block emits nothing and stays as it is in all that the traffic depends on (R255). -/
theorem typeKeys_of_locked {s : State} (h : 21 ≤ s.lockupCount) (ks : List Key) :
    (typeKeys ks s).2 = [] ∧ SameTraffic (typeKeys ks s).1 s := by
  induction ks generalizing s with
  | nil => exact ⟨rfl, rfl, rfl, rfl, rfl, rfl, rfl⟩
  | cons k rest ih =>
    have hpress : s.press k = s.beginEvent :=
      handleKey_of_gated k ((keysGated_iff s.beginEvent).mpr (.inr (.inr (.inr h))))
    have hrest := ih (s := s.beginEvent) h
    rwa [typeKeys, hpress]

/-- What the decrypting block `t` makes of the keys `ks` typed into the encrypting block `s`. -/
structure Recovers (ks : List Key) (s t : State) : Prop where
  /-- `t` emits what the first keys are received as, one for each ciphertext letter -/
  received : (typeKeys (letterKeys (typeKeys ks s).2) t).2 =
    (ks.take (letterKeys (typeKeys ks s).2).length).map receivedAs
  /-- only lockup cuts the ciphertext short -/
  complete : (typeKeys ks s).1.lockupCount < 21 → (letterKeys (typeKeys ks s).2).length = ks.length
  inStep : SameTraffic (typeKeys ks s).1 (typeKeys (letterKeys (typeKeys ks s).2) t).1

theorem Recovers.nil {s t : State} (h : SameTraffic s t) : Recovers [] s t := ⟨rfl, fun _ => rfl, h⟩

/-- Nothing is recovered of what is typed into a locked block. -/
theorem Recovers.of_locked {s t : State} (h : SameTraffic s t) (hlock : 21 ≤ s.lockupCount) (ks : List Key) :
    Recovers ks s t := by
  obtain ⟨hout, hsame⟩ := typeKeys_of_locked hlock ks
  have ⟨_, _, _, _, _, hcount⟩ := hsame
  have hnone : letterKeys (typeKeys ks s).2 = [] := by rw [hout]; rfl
  constructor
  · rw [hnone]; rfl
  · intro hlt; omega
  · rw [hnone]
    exact sameTraffic_trans hsame h

/-- The first key gives one ciphertext letter and one received character; the rest follows from where both blocks
are then. -/
theorem Recovers.cons {k : Key} {rest : List Key} {s t : State} {y : Contact}
    (hletter : letterKeys (s.press k).out = [.letter y]) (hchar : (t.press (.letter y)).out = [receivedAs k])
    (h : Recovers rest (s.press k) (t.press (.letter y))) : Recovers (k :: rest) s t := by
  obtain ⟨hreceived, hcomplete, hinStep⟩ := h
  have hkeys : letterKeys (typeKeys (k :: rest) s).2 = .letter y :: letterKeys (typeKeys rest (s.press k)).2 := by
    rw [typeKeys, letterKeys_append, hletter, List.singleton_append]
  constructor
  · rw [hkeys, typeKeys, hchar, hreceived]
    rfl
  · rw [hkeys]
    exact fun hlt => congrArg Nat.succ (hcomplete hlt)
  · rw [hkeys]
    exact hinStep

/-- Blocks in step recover every list of traffic keys: each key leaves them in step again, live or locked. -/
theorem recovers_of_inStep {ks : List Key} {v : Variant} {s t : State} (hks : ∀ k ∈ ks, isTrafficKey k = true)
    (hs : KeyLive s .encrypt .operate v) (ht : KeyLive t .decrypt .operate v) (hst : SameTraffic s t) :
    Recovers ks s t := by
  induction ks generalizing s t with
  | nil => exact .nil hst
  | cons k rest ih =>
    obtain ⟨hk, hrest⟩ := List.forall_mem_cons.mp hks
    obtain ⟨y, hletter, hchar, hstep⟩ := press_traffic hk hs ht hst
    refine .cons hletter hchar ?_
    by_cases hlock : (s.press k).lockupCount < 21
    · have ⟨_, _, _, _, _, hcount⟩ := hstep
      have hlock' : (t.press (.letter y)).lockupCount < 21 := hcount ▸ hlock
      exact ih hrest (press_keyLive hs k hlock) (press_keyLive ht _ hlock') hstep
    · exact .of_locked hstep (Nat.le_of_not_lt hlock) rest

/-- Settles O60, by induction on the keys: two blocks in step stay so key by key, until both lock together. -/
theorem decryptionRecoversTheTypedText : Obligations.DecryptionRecoversTheTypedText := by
  intro ks v s t hks hs ht hst
  obtain ⟨hreceived, hcomplete, hinStep⟩ := recovers_of_inStep hks hs ht hst
  exact ⟨_, _, _, _, runWords_keyWords ks s, runWords_keyWords _ t, hreceived, hcomplete, hinStep⟩

end Sys2Proof.Machine
end

section
/-! Proofs of the statements of 45_host_interface.md: the idle step (R230), the configuration registers (R231), the
configuration strings (R232) and the position texts (R233). -/

namespace Sys2Proof.Machine

/-! ### The idle step -/

theorem State.nextEvent_of_no_events {s : State} (h : s.events = []) : s.nextEvent = none := by
  rw [State.nextEvent, h, List.head?_nil]

/-- Settles O6, by the case of `step` with nothing on the event port. -/
theorem stepHoldsWithoutEvent : Obligations.StepHoldsWithoutEvent :=
  fun _ h => step_of_none (State.nextEvent_of_no_events h)

/-! ### The configuration registers -/

theorem poolSelect_of_in_range {n : Nat} {p : Pool n} {idx : Int} (h : 0 ≤ idx ∧ idx < 1 + p.more.length) :
    (p.entry0 :: p.more)[idx.toNat]? = some (poolSelect p idx) := by
  have hrange : 0 ≤ idx ∧ idx < poolSize p := by simpa [poolSize] using h
  have hlt : idx.toNat < (p.entry0 :: p.more).length := by
    rw [List.length_cons]
    omega
  rw [poolSelect, if_pos hrange, List.getD_eq_getElem _ _ hlt, List.getElem?_eq_getElem hlt]

theorem poolSelect_of_out_of_range {n : Nat} {p : Pool n} {idx : Int} (h : idx < 0 ∨ 1 + p.more.length ≤ idx) :
    poolSelect p idx = p.entry0 := by
  have hrange : ¬ (0 ≤ idx ∧ idx < poolSize p) := by
    rw [poolSize]
    omega
  rw [poolSelect, if_neg hrange]

theorem configureSlot_configured {n : Nat} (p : Pool n) (c : SlotChoice) : SlotConfigured p c (configureSlot p c) :=
  ⟨poolSelect_of_in_range, poolSelect_of_out_of_range, decide_eq_true_iff⟩

theorem configureBank_configured {n : Nat} (p : Pool n) (order : RotorOrder) (j : Slot) :
    SlotConfigured p (order.get j) ((configureBank p order).get j) := by
  rw [configureBank, Slots.get_tabulate]
  exact configureSlot_configured p (order.get j)

/-- Settles O50: each bank is configured slot by slot, and every table carries its inverse (R7). -/
theorem configureFallsBackToEntryZero : Obligations.ConfigureFallsBackToEntryZero := fun p j =>
  ⟨configureBank_configured p.cipherPool p.cipherOrder j, configureBank_configured p.controlPool p.controlOrder j,
    configureBank_configured p.indexPool p.indexOrder j,
    fun c => ⟨((configure p).cipher.get j).wiring.bwd_fwd c, ((configure p).control.get j).wiring.bwd_fwd c⟩,
    ((configure p).index.get j).wiring.bwd_fwd⟩

/-! ### The characters of the alphabets -/

/-- A digit character reads as its value, another one as the default `d` (log 10). -/
theorem digitValue_getD_val (ch : Char) (d : IndexContact) :
    ((digitValue ch).getD d).val = if 48 ≤ ch.toNat ∧ ch.toNat ≤ 57 then ch.toNat - 48 else d.val := by
  have hlast : ch.toNat < 58 ↔ ch.toNat ≤ 57 := Nat.lt_succ_iff
  simp only [digitValue, hlast]
  split <;> rfl

/-- A letter character reads as its number, another one as the default `d` (log 10). -/
theorem letterValue_getD_val (ch : Char) (d : Contact) :
    ((letterValue ch).getD d).val = if 65 ≤ ch.toNat ∧ ch.toNat ≤ 90 then ch.toNat - 65 else d.val := by
  have hlast : ch.toNat < 91 ↔ ch.toNat ≤ 90 := Nat.lt_succ_iff
  simp only [letterValue, hlast]
  split <;> rfl

/-! ### The configuration strings -/

theorem parseChoice_wiringIndex (d o : Char) :
    (parseChoice d o).wiringIndex = if 48 ≤ d.toNat ∧ d.toNat ≤ 57 then ((d.toNat - 48 : Nat) : Int) else 0 := by
  have hread : (parseChoice d o).wiringIndex = (((digitValue d).getD 0).val : Int) := by
    unfold parseChoice
    cases digitValue d <;> rfl
  rw [hread, digitValue_getD_val, Nat.cast_ite]
  rfl

theorem parseChoice_reversed_iff (d o : Char) : (parseChoice d o).orientation = .reversed ↔ o = 'R' := by
  simp [parseChoice]

theorem parseTen_of_length_ne {t : List Char} (h : t.length ≠ 10) : parseTen t = none := by
  unfold parseTen
  split
  · exact absurd rfl h
  · rfl

/-- Slot `j` takes the characters `2j` and `2j + 1` of a string of ten (R232). -/
theorem parseTen_get {t : List Char} {j : Slot} {d o : Char} (hlen : t.length = 10) (hd : t[2 * j.val]? = some d)
    (ho : t[2 * j.val + 1]? = some o) : ∃ order, parseTen t = some order ∧ order.get j = parseChoice d o := by
  match t, hlen with
  | [d0, o0, d1, o1, d2, o2, d3, o3, d4, o4], _ =>
    refine ⟨_, rfl, ?_⟩
    fin_cases j <;> cases hd <;> cases ho <;> rfl

theorem parseOrder_of_length_ne (dflt : RotorOrder) {t : List Char} (h : t.length ≠ 10) :
    parseOrder dflt (some t) = dflt := by
  rw [parseOrder, Option.bind_some, parseTen_of_length_ne h, Option.getD_none]

theorem parseOrder_get (dflt : RotorOrder) {t : List Char} {j : Slot} {d o : Char} (hlen : t.length = 10)
    (hd : t[2 * j.val]? = some d) (ho : t[2 * j.val + 1]? = some o) :
    (parseOrder dflt (some t)).get j = parseChoice d o := by
  obtain ⟨order, hparse, hget⟩ := parseTen_get hlen hd ho
  rw [parseOrder, Option.bind_some, hparse, Option.getD_some, hget]

/-- Settles O51: a string of ten is read as the choices of its five slots, and any other gives the default. -/
theorem orderStringsParseOrDefault : Obligations.OrderStringsParseOrDefault := by
  refine ⟨fun _ => rfl, fun dflt _ => parseOrder_of_length_ne dflt, ?slots, fun _ _ _ _ => ⟨rfl, rfl, rfl⟩, ?defaults⟩
  case slots =>
    intro dflt t j d o hlen hd ho
    rw [parseOrder_get dflt hlen hd ho]
    exact ⟨parseChoice_wiringIndex d o, parseChoice_reversed_iff d o⟩
  case defaults => decide

/-! ### The position texts -/

/-- Code 31 is past either alphabet, so that it is sanitised to home (R125, R233). -/
theorem sanitize_getD_31 {n : Nat} (hn : n ≤ 31) (home : Fin n) (v : Option (Fin n)) :
    sanitize n home ((v.map Fin.val).getD 31) = v.getD home := by
  cases v with
  | none => exact dif_neg (Nat.not_lt.mpr hn)
  | some x => exact dif_pos x.isLt

theorem textSymbols_cipher_get (text : List Char) (j : Slot) :
    (textSymbols .cipher text).get j = ((text[j.val]?.bind letterValue).map Fin.val).getD 31 := by
  rw [textSymbols, Slots.get_tabulate]
  cases text[j.val]? <;> rfl

theorem textSymbols_index_get (text : List Char) (j : Slot) :
    (textSymbols .index text).get j = ((text[j.val]?.bind digitValue).map Fin.val).getD 31 := by
  rw [textSymbols, Slots.get_tabulate]
  cases text[j.val]? <;> rfl

theorem textLetter_eq (text : List Char) (j : Slot) :
    textLetter text j = ((text[j.val]?.bind letterValue).getD home26).val := by
  unfold textLetter
  cases text[j.val]? with
  | none => rfl
  | some ch => exact (letterValue_getD_val ch home26).symm

theorem textDigit_eq (text : List Char) (j : Slot) :
    textDigit text j = ((text[j.val]?.bind digitValue).getD home10).val := by
  unfold textDigit
  cases text[j.val]? with
  | none => rfl
  | some ch => exact (digitValue_getD_val ch home10).symm

theorem sanitized_letters_get (text : List Char) (j : Slot) :
    ((Slots.tabulate fun i => sanitize 26 home26 ((textSymbols .cipher text).get i)).get j).val = textLetter text j := by
  rw [Slots.get_tabulate, textSymbols_cipher_get, sanitize_getD_31 (by decide), textLetter_eq]

theorem sanitized_digits_get (text : List Char) (j : Slot) :
    ((Slots.tabulate fun i => sanitize 10 home10 ((textSymbols .index text).get i)).get j).val = textDigit text j := by
  rw [Slots.get_tabulate, textSymbols_index_get, sanitize_getD_31 (by decide), textDigit_eq]

/-- Settles O52: the text is issued as the SETPOS event of its bank, which sanitises its symbols slot by slot; the
control bank has the alphabet of the cipher bank. -/
theorem textOverrideSanitisesPerSymbol : Obligations.TextOverrideSanitisesPerSymbol := fun text s =>
  have hexec (bank : Bank) := exec_setposInstr bank (textSymbols bank text) s
  ⟨⟨_, hexec .cipher, rfl, sanitized_letters_get text⟩,
    ⟨_, hexec .control, rfl, sanitized_letters_get text⟩,
    ⟨_, hexec .index, rfl, sanitized_digits_get text⟩⟩

end Sys2Proof.Machine
end

section
/-! Proofs of the statements of 60_exceptions.md: no step stops (R250), the only exit from lockup (R255), and the
events that write the switch registers (R257). -/

namespace Sys2Proof.Machine

/-! ### No step stops -/

/-- Settles O9: the idle step, the reserved word and the decoded instruction each answer a next state. -/
theorem everyStepAnswersNext : Obligations.EveryStepAnswersNext := by
  intro s
  rcases step_cases s with ⟨-, hs⟩ | ⟨w, e, -, -, hs⟩ | ⟨w, i, t, -, -, hs, -⟩
  · exact ⟨s, hs⟩
  · exact ⟨s.popEvent.beginEvent, hs⟩
  · exact ⟨t, hs⟩

/-! ### The exit from lockup -/

/-- A locked block keeps `lockupCount` and `keystrokeCount`, since its keys are gated (R190), until a SETOP row whose
position clears the lockup (R171, R255). -/
theorem EventCase.counts_eq_or_clears_of_locked {s t : State} {i : Instr} (h : EventCase s i t)
    (hlock : 21 ≤ s.lockupCount) :
    (t.lockupCount = s.lockupCount ∧ t.keystrokeCount = s.keystrokeCount) ∨
      (i = .setopOff ∨ i = .setopPlain ∨ i = .setopReset) ∧ t.lockupCount = 0 := by
  cases h with
  | @key _ k _ =>
    have hgated : s.beginEvent.keysGated = true := (keysGated_iff s.beginEvent).mpr (.inr (.inr (.inr hlock)))
    rw [handleKey_of_gated k hgated]
    exact .inl ⟨rfl, rfl⟩
  | setop new hrow =>
    rw [setOperatingSwitch_eq]
    rcases hrow with ⟨rfl, rfl⟩ | ⟨rfl, rfl⟩ | ⟨rfl, rfl⟩ | ⟨rfl, rfl⟩ | ⟨rfl, rfl⟩
    case inr.inr.inr.inl | inr.inr.inr.inr => exact .inl ⟨rfl, rfl⟩
    all_goals exact .inr ⟨by simp, rfl⟩
  | nop | setz | setvar | zeroize | setposCipher | setposControl | setposIndex => exact .inl ⟨rfl, rfl⟩

/-- Settles O54, by the cases of a step: the decoded instruction keeps the two counters or clears the lockup. -/
theorem lockedUntilSetopOffPlainReset : Obligations.LockedUntilSetopOffPlainReset := by
  intro s t hlock hstep
  rcases step_next_cases hstep with rfl | rfl | ⟨w, rest, i, hev, hdec, hcase⟩
  · exact .inl ⟨rfl, rfl⟩
  · exact .inl ⟨rfl, rfl⟩
  · refine (hcase.counts_eq_or_clears_of_locked hlock).imp_right fun ⟨hrow, hzero⟩ => ⟨w, rest, hev, ?_, hzero⟩
    simpa [hdec] using hrow

/-! ### The switch registers -/

/-- Each switch register is left by every instruction but the rows of its own event (R28 to R31, R257). -/
theorem EventCase.switches_eq_or_mem {s t : State} {i : Instr} (h : EventCase s i t) :
    ((t.operatingSwitch = s.operatingSwitch ∧ t.previousOperatingSwitch = s.previousOperatingSwitch) ∨
        i ∈ setopInstrs) ∧
      (t.zeroizeSwitch = s.zeroizeSwitch ∨ i ∈ setzInstrs) ∧
      (t.machineVariant = s.machineVariant ∨ i ∈ setvarInstrs) := by
  cases h with
  | @key _ k _ =>
    obtain ⟨-, hop, hprev, hz, hv, -, -⟩ := handleKey_frame k s.beginEvent
    exact ⟨.inl ⟨hop, hprev⟩, .inl hz, .inl hv⟩
  | setop new hrow =>
    have hmem : i ∈ setopInstrs := by
      rcases hrow with ⟨rfl, -⟩ | ⟨rfl, -⟩ | ⟨rfl, -⟩ | ⟨rfl, -⟩ | ⟨rfl, -⟩ <;> simp [setopInstrs]
    rw [setOperatingSwitch_eq]
    exact ⟨.inr hmem, .inl rfl, .inl rfl⟩
  | setz z hrow => exact ⟨.inl ⟨rfl, rfl⟩, .inr (by simpa [setzInstrs] using hrow), .inl rfl⟩
  | setvar v hrow => exact ⟨.inl ⟨rfl, rfl⟩, .inl rfl, .inr (by simpa [setvarInstrs] using hrow)⟩
  | nop | zeroize | setposCipher | setposControl | setposIndex => exact ⟨.inl ⟨rfl, rfl⟩, .inl rfl, .inl rfl⟩

/-- Settles O57, by the cases of a step: a register that changed was not left by the decoded instruction, which is
then a row of the register's event. -/
theorem switchesMoveOnlyBySwitchEvents : Obligations.SwitchesMoveOnlyBySwitchEvents := by
  intro s t hstep
  rcases step_next_cases hstep with rfl | rfl | ⟨w, rest, i, hev, hdec, hcase⟩
  · simp
  · simp
  · obtain ⟨hsetop, hsetz, hsetvar⟩ := hcase.switches_eq_or_mem
    refine ⟨fun hne => ⟨w, rest, i, hev, hdec, hsetop.resolve_left ?_⟩,
      fun hne => ⟨w, rest, i, hev, hdec, hsetz.resolve_left hne⟩,
      fun hne => ⟨w, rest, i, hev, hdec, hsetvar.resolve_left hne⟩⟩
    exact fun ⟨hop, hprev⟩ => hne.elim (· hop) (· hprev)

end Sys2Proof.Machine
end

section
/-! Proofs of the statements of 70_reset_and_hazards.md, the reset (R280), and of section 6 of 30_encoding.md, the
worked encodings. -/

namespace Sys2Proof.Machine

/-! ### Reset -/

/-- Reset with parameters that load is the reset state of their configuration, with the pending words kept
(R280, log 12). -/
theorem assertReset_of_load {p : RawParameters} {q : Parameters} (h : loadParameters p = .ok q) (s : State)
    (values : ResetValues) :
    assertReset p s values = .next { State.resetWith (configure q) values with events := s.events } := by
  simp only [assertReset, h]

/-- The decided positions of R36: `O` in every cipher and control slot, `0` in every index slot. -/
theorem ResetValues.decided_positions (j : Slot) :
    (ResetValues.decided.C.get j).val = 14 ∧ (ResetValues.decided.K.get j).val = 14 ∧
      (ResetValues.decided.I.get j).val = 0 := by
  simp [ResetValues.decided, home26, home10]

/-- Settles O49: the registers of the reset state are the fields of its reset values, by default those of R36. -/
theorem resetLoadsTheDecidedValues : Obligations.ResetLoadsTheDecidedValues := by
  intro p q s hload
  constructor
  · intro values
    exact ⟨_, assertReset_of_load hload s values, rfl, rfl, rfl, rfl, rfl, rfl, rfl, rfl, rfl, rfl, rfl, rfl, rfl⟩
  · exact ⟨_, assertReset_of_load hload s _, ResetValues.decided_positions,
      rfl, rfl, rfl, rfl, rfl, rfl, rfl, rfl, rfl, rfl⟩

/-! ### The worked encodings -/

/-- A word that encodes a well-formed instruction decodes to it. -/
theorem decode_of_encode_eq {w : Word} {i : Instr} (hw : encode i = w) (hwf : i.wellFormed = true) :
    decode w = .ok i :=
  hw ▸ decodeOfEncodeIsTheInstruction i hwf

/-- Settles O7, by the round trip of O1: each word is the encoding of its instruction. -/
theorem sampleWordsDecode : Obligations.SampleWordsDecode := by
  refine ⟨?_, ?_, ?_, ?_, ?_, ?_, ?_, ?_⟩
  all_goals exact decode_of_encode_eq rfl rfl

end Sys2Proof.Machine
end
